-- ==== Sys2Proof/Word.lean ====
section
/-! DEFINITION. The word types of the block (00_scope.md R13, 20_memory.md R82): a register and an address are
32 bits, the smallest addressable unit is a byte. -/

namespace Sys2Proof

/-- A 32-bit register word, address, clock frequency in Hz, StopWatch handle or counter sample (R13, R82, R101). -/
abbrev Word := BitVec 32

/-- One byte of an operation's encoding or of memory (R82, R100). -/
abbrev Byte := BitVec 8

/-- A 64-bit count of ticks or nanoseconds, or the bits of a binary64 (R38, R101, R145). -/
abbrev DWord := BitVec 64

end Sys2Proof
end

