-- ==== Sys2Proof/Syntax.lean ====
section
/-! DEFINITION. The operations of the block as syntax: one constructor of `Instr` per row of spec/opcode_table.json,
with the operand record that 30_encoding.md R105 gives it. An operand is held in a container of whole bytes, so that
a value outside its legal set can be written down and is refused by the operation (R107), not lost in decoding. -/

namespace Sys2Proof

/-- The payload of a `Duration` (30_encoding.md R102, 40_cycle_clock.md R145): the four tagged forms. -/
inductive DurForm where
  /-- tag 00, raw ticks -/
  | ticks (t : DWord)
  /-- tag 01, nanoseconds -/
  | nanos (n : DWord)
  /-- tag 10, seconds as the bits of an IEEE 754 binary32 -/
  | secs32 (s : Word)
  /-- tag 11, seconds as the bits of an IEEE 754 binary64 -/
  | secs64 (s : DWord)
  deriving DecidableEq, Repr, Inhabited

/-- A `Duration`: a tagged time, optionally with a clock frequency in Hz (R102, R145). -/
structure Duration where
  form : DurForm
  freq : Option Word
  deriving DecidableEq, Repr, Inhabited

/-- The seven nanosecond delays and the refresh period of 43_timing_calc.md R200. -/
structure TimingNs where
  rcd : Word
  rp : Word
  wr : Word
  rc : Word
  ras : Word
  xsr : Word
  mrd : Word
  refreshPeriod : Word
  deriving DecidableEq, Repr, Inhabited

/-- `TimingSpecNs` with its two derived parameters (43_timing_calc.md R200). -/
structure TimingSpecNs where
  ns : TimingNs
  rowBits : Word
  sdclkDiv : Word
  deriving DecidableEq, Repr, Inhabited

/-- The geometry part of `SdramConfig` (44_sdram_sequencer.md R222, R229). The rules give `col_bits`, `data_width`,
`internal_banks`, `cas_latency` and `read_pipe` no type: each is taken as a u32 (DESIGN CHOICE, log 4). -/
structure Geometry where
  colBits : Word
  rowBits : Word
  dataWidth : Word
  internalBanks : Word
  casLatency : Word
  writeProtect : Byte
  sdclkDiv : Word
  readBurst : Byte
  readPipe : Word
  deriving DecidableEq, Repr, Inhabited

/-- The mode part of `SdramConfig` (R222): the mode-register parameters less the CAS latency, which the geometry gives.
`burst_length` has no type in the rules: a u32 (DESIGN CHOICE, log 4). -/
structure ModeConfig where
  burstLength : Word
  burstType : Byte
  opMode : Byte
  writeBurst : Byte
  deriving DecidableEq, Repr, Inhabited

/-- `ModeParams` (44_sdram_sequencer.md R244); `cas_latency` is taken as a u32 (DESIGN CHOICE, log 4); its
place in the byte record is R244's (`getModeParams`), whatever its place here. -/
structure ModeParams where
  mode : ModeConfig
  casLatency : Word
  deriving DecidableEq, Repr, Inhabited

/-- `SdramConfig` (44_sdram_sequencer.md R222). -/
structure SdramConfig where
  geometry : Geometry
  timing : TimingNs
  mode : ModeConfig
  deriving DecidableEq, Repr, Inhabited

/-- `DisplayTimingSpec`: eight 16-bit fields (45_ltdc.md R270). -/
structure DisplayTimingSpec where
  hSync : BitVec 16
  hBackPorch : BitVec 16
  hActive : BitVec 16
  hFrontPorch : BitVec 16
  vSync : BitVec 16
  vBackPorch : BitVec 16
  vActive : BitVec 16
  vFrontPorch : BitVec 16
  deriving DecidableEq, Repr, Inhabited

/-- A layer's colour key: its format flag (1 = RGB565) and the key (45_ltdc.md R282). -/
structure ColorKey where
  fmt : Byte
  key : Word
  deriving DecidableEq, Repr, Inhabited

/-- One `LayerConfig` of an `LtdcConfig` (45_ltdc.md R300). -/
structure LayerConfig where
  layer : Byte
  pf : Byte
  defaultColor : Word
  constAlpha : Byte
  bf1 : Byte
  bf2 : Byte
  colorKey : Option ColorKey
  x : BitVec 16
  y : BitVec 16
  w : BitVec 16
  h : BitVec 16
  fbAddr : Option Word
  deriving DecidableEq, Repr, Inhabited

/-- `LtdcConfig` (45_ltdc.md R300). -/
structure LtdcConfig where
  bg : Word
  hs : Byte
  vs : Byte
  de : Byte
  pc : Byte
  timing : DisplayTimingSpec
  layers : List LayerConfig
  deriving DecidableEq, Repr, Inhabited

/-- One constructor per row of the opcode table: the 47 operations of format OP8 (30_encoding.md R105) and the four
command words of format SDCMR that the block issues (R112, R113). -/
inductive Instr where
  | ccNow
  | ccElapsed (since : Word)
  | ccEnable
  | durToTicks (d : Duration)
  | dlyTicks (t : DWord)
  | dlyUs (n : Word)
  | dlyMs (n : Word)
  | dlySF32 (sec : Word)
  | dlySF64 (sec : DWord)
  | dlyDuration (d : Duration)
  | swNew (h : Word) (cap : Word) (freq : Word)
  | swLap (h : Word)
  | swLapTime (h : Word) (n : Word)
  | swReset (h : Word)
  | swIterNext (h : Word)
  | tcNanosToCycles (ns clockFreq divisor subtract minimum : Word)
  | tcRefreshCounter (periodNs clockFreq divisor rowCount : Word)
  | tcConvertSpec (spec : TimingSpecNs) (clockFreq divisor : Word)
  | sdBringup (bank : Byte) (cfg : SdramConfig)
  | sdSendCmd (bank : Byte) (mode : Byte) (nrfs : Byte) (mrd : BitVec 16)
  | sdWaitReady
  | sdModeWord (mp : ModeParams)
  | ltSetTiming (spec : DisplayTimingSpec)
  | ltWindow (layer : Byte) (hStart hStop vStart vStop : BitVec 16)
  | ltWindowXywh (layer : Byte) (x y w h : BitVec 16)
  | ltReload (mode : Byte)
  | ltReady
  | ltWaitReady
  | ltBgcolor (rgb : Word)
  | ltPolarity (hs vs de pc : Byte)
  | ltPixelFormat (layer pf : Byte)
  | ltDefaultColor (layer : Byte) (argb : Word)
  | ltConstAlpha (layer a : Byte)
  | ltBlend (layer bf1 bf2 : Byte)
  | ltColorKey (layer fmt : Byte) (key : Word)
  | ltLineConfig (layer : Byte) (widthPx : BitVec 16) (bytesPp : Byte) (lines : BitVec 16)
  | ltFbAddr (layer : Byte) (addr : Word)
  | ltLayerEnable (layer : Byte)
  | ltDitherEnable
  | ltEnable
  | ltSetup (cfg : LtdcConfig)
  | ltRgb565To888 (c : BitVec 16)
  | csEnter
  | csExit
  | rccFmcEnable
  | rccFmcResetPulse
  | clkFreq
  | sdcmdClk (ctb2 ctb1 : Bool) (nrfs : BitVec 4) (mrd : BitVec 13)
  | sdcmdPall (ctb2 ctb1 : Bool) (nrfs : BitVec 4) (mrd : BitVec 13)
  | sdcmdAref (ctb2 ctb1 : Bool) (nrfs : BitVec 4) (mrd : BitVec 13)
  | sdcmdLmr (ctb2 ctb1 : Bool) (nrfs : BitVec 4) (mrd : BitVec 13)
  deriving DecidableEq, Repr, Inhabited

/-- The mnemonic of a constructor's row of spec/opcode_table.json, letter for letter (R105, R109). -/
def Instr.mnemonic : Instr → String
  | .ccNow => "CC_NOW"
  | .ccElapsed .. => "CC_ELAPSED"
  | .ccEnable => "CC_ENABLE"
  | .durToTicks .. => "DUR_TO_TICKS"
  | .dlyTicks .. => "DLY_TICKS"
  | .dlyUs .. => "DLY_US"
  | .dlyMs .. => "DLY_MS"
  | .dlySF32 .. => "DLY_S_F32"
  | .dlySF64 .. => "DLY_S_F64"
  | .dlyDuration .. => "DLY_DURATION"
  | .swNew .. => "SW_NEW"
  | .swLap .. => "SW_LAP"
  | .swLapTime .. => "SW_LAP_TIME"
  | .swReset .. => "SW_RESET"
  | .swIterNext .. => "SW_ITER_NEXT"
  | .tcNanosToCycles .. => "TC_NANOS_TO_CYCLES"
  | .tcRefreshCounter .. => "TC_REFRESH_COUNTER"
  | .tcConvertSpec .. => "TC_CONVERT_SPEC"
  | .sdBringup .. => "SD_BRINGUP"
  | .sdSendCmd .. => "SD_SEND_CMD"
  | .sdWaitReady => "SD_WAIT_READY"
  | .sdModeWord .. => "SD_MODE_WORD"
  | .ltSetTiming .. => "LT_SET_TIMING"
  | .ltWindow .. => "LT_WINDOW"
  | .ltWindowXywh .. => "LT_WINDOW_XYWH"
  | .ltReload .. => "LT_RELOAD"
  | .ltReady => "LT_READY"
  | .ltWaitReady => "LT_WAIT_READY"
  | .ltBgcolor .. => "LT_BGCOLOR"
  | .ltPolarity .. => "LT_POLARITY"
  | .ltPixelFormat .. => "LT_PIXEL_FORMAT"
  | .ltDefaultColor .. => "LT_DEFAULT_COLOR"
  | .ltConstAlpha .. => "LT_CONST_ALPHA"
  | .ltBlend .. => "LT_BLEND"
  | .ltColorKey .. => "LT_COLOR_KEY"
  | .ltLineConfig .. => "LT_LINE_CONFIG"
  | .ltFbAddr .. => "LT_FB_ADDR"
  | .ltLayerEnable .. => "LT_LAYER_ENABLE"
  | .ltDitherEnable => "LT_DITHER_ENABLE"
  | .ltEnable => "LT_ENABLE"
  | .ltSetup .. => "LT_SETUP"
  | .ltRgb565To888 .. => "LT_RGB565_TO_888"
  | .csEnter => "CS_ENTER"
  | .csExit => "CS_EXIT"
  | .rccFmcEnable => "RCC_FMC_ENABLE"
  | .rccFmcResetPulse => "RCC_FMC_RESET_PULSE"
  | .clkFreq => "CLK_FREQ"
  | .sdcmdClk .. => "SDCMD_CLK"
  | .sdcmdPall .. => "SDCMD_PALL"
  | .sdcmdAref .. => "SDCMD_AREF"
  | .sdcmdLmr .. => "SDCMD_LMR"

end Sys2Proof
end

