-- ==== Sys2Proof/Config.lean ====
section
/-! DEFINITION. What an implementation fixes (00_scope.md R12): the constants the spec fixes, the parameters it leaves
open, as plain data with R12's defaults (State holds one such record, constant for the run: R56, log 7), and the free
values, which are opaque: nothing in Lean can evaluate them. -/

namespace Sys2Proof

/-! ### Constants the spec fixes (R12) -/

/-- `DELAY_CHUNK` = 2^31 − 1 ticks, the longest sub-wait (41_delay.md R162, D12). -/
def Config.delayChunk : Nat := 2147483647
/-- `SDRAM_POWERUP_US` (44_sdram_sequencer.md R236). -/
def Config.sdramPowerupUs : Nat := 500
/-- `AUTOREFRESH_COUNT` (R238). -/
def Config.autorefreshCount : Nat := 8
/-- `REFRESH_MARGIN` (43_timing_calc.md R202). -/
def Config.refreshMargin : Nat := 20
/-- `REFRESH_THRESHOLD` (R202). -/
def Config.refreshThreshold : Nat := 61
/-- `REFRESH_FALLBACK` (R202). -/
def Config.refreshFallback : Nat := 41
/-- `PITCH_ALIGN` in bytes (45_ltdc.md R283). -/
def Config.pitchAlign : Nat := 64
/-- Size in bytes of one SDRAM window, 256 MiB (20_memory.md R81). -/
def Config.sdramWindowBytes : Nat := 268435456

/-! ### Device registers by name (20_memory.md R86) -/

/-- The per-layer LTDC registers (10_state.md R53). -/
inductive LayerReg where
  | cr | whpcr | wvpcr | ckcr | pfcr | cacr | dccr | bfcr | cfbar | cfblr | cfblnr
  deriving DecidableEq, Repr, Inhabited

/-- The device registers of `RegMap` (R86), by name. A layer is numbered from 1. -/
inductive Reg where
  | dwtCtrl | dwtCyccnt | demcr
  | ahb3rstr | ahb3enr
  | sdcr1 | sdcr2 | sdtr1 | sdtr2 | sdcmr | sdrtr | sdsr
  | sscr | bpcr | awcr | twcr | gcr | srcr | bccr
  | layer (k : Nat) (r : LayerReg)
  deriving DecidableEq, Repr, Inhabited

/-- All layer registers (R53). -/
def LayerReg.all : List LayerReg :=
  [.cr, .whpcr, .wvpcr, .ckcr, .pfcr, .cacr, .dccr, .bfcr, .cfbar, .cfblr, .cfblnr]

/-! ### `RegMap`: the addresses, bit positions and reset values of the device registers (R3, R12, D20)

The default map, `RegMap.default`, stands in Machine/Layout.lean with what is computed from a map. -/

/-- A field of a register: its lowest bit and its number of bits. -/
structure BitField where
  pos : Nat
  width : Nat
  deriving DecidableEq, Repr, Inhabited

/-- The lowest bits of the two fields of a boundary or window register: the horizontal or last one, the vertical or first
one (10_state.md R50, R53). Their widths are `H_FIELD_BITS` and `V_FIELD_BITS`. -/
structure PairPos where
  hi : Nat
  lo : Nat
  deriving DecidableEq, Repr, Inhabited

/-- The fields of an SDRAM control register (10_state.md R41). -/
structure SdcrFields where
  nc : BitField
  nr : BitField
  mwid : BitField
  nb : BitField
  cas : BitField
  wp : BitField
  sdclk : BitField
  rburst : BitField
  rpipe : BitField
  deriving DecidableEq, Repr, Inhabited

/-- The fields of an SDRAM timing register (R42). -/
structure SdtrFields where
  tmrd : BitField
  txsr : BitField
  tras : BitField
  trc : BitField
  twr : BitField
  trp : BitField
  trcd : BitField
  deriving DecidableEq, Repr, Inhabited

/-- The fields of the SDRAM command register (R43, 30_encoding.md R112). -/
structure SdcmrFields where
  mode : BitField
  ctb2 : BitField
  ctb1 : BitField
  nrfs : BitField
  mrd : BitField
  deriving DecidableEq, Repr, Inhabited

/-- The fields of the refresh timer register (R44). -/
structure SdrtrFields where
  cre : BitField
  count : BitField
  reie : BitField
  deriving DecidableEq, Repr, Inhabited

/-- The fields of the LTDC global control register (R49). -/
structure GcrFields where
  ltdcen : BitField
  dbw : BitField
  dgw : BitField
  drw : BitField
  den : BitField
  pcpol : BitField
  depol : BitField
  vspol : BitField
  hspol : BitField
  deriving DecidableEq, Repr, Inhabited

/-- The channels of a colour register (R51, R53). -/
structure ColourFields where
  blue : BitField
  green : BitField
  red : BitField
  deriving DecidableEq, Repr, Inhabited

/-- The fields of the layer registers, the same for every layer (R53). -/
structure LayerFields where
  len : BitField
  colken : BitField
  cluten : BitField
  whpcr : PairPos
  wvpcr : PairPos
  ckcr : ColourFields
  pf : BitField
  consta : BitField
  dccr : ColourFields
  dcalpha : BitField
  bf2 : BitField
  bf1 : BitField
  cfbadd : BitField
  cfbll : BitField
  cfbp : BitField
  cfblnbr : BitField
  deriving DecidableEq, Repr, Inhabited

/-- The fields of every device register outside the mode-register word (R3). -/
structure FieldMap where
  /-- DEMCR.TRCENA and DWT_CTRL.CYCCNTENA (R36) -/
  trcena : BitField
  cyccntena : BitField
  /-- RCC_AHB3RSTR.FMCRST and RCC_AHB3ENR.FMCEN (R40) -/
  fmcrst : BitField
  fmcen : BitField
  sdcr : SdcrFields
  sdtr : SdtrFields
  sdcmr : SdcmrFields
  sdrtr : SdrtrFields
  /-- FMC_SDSR.BUSY (R45) -/
  busy : BitField
  gcr : GcrFields
  sscr : PairPos
  bpcr : PairPos
  awcr : PairPos
  twcr : PairPos
  bccr : ColourFields
  /-- LTDC_SRCR.IMR and LTDC_SRCR.VBR (R52) -/
  imr : BitField
  vbr : BitField
  layer : LayerFields
  deriving DecidableEq, Repr, Inhabited

/-- The byte offset of each layer register from its layer's base (R53). -/
structure LayerOffsets where
  cr : Nat
  whpcr : Nat
  wvpcr : Nat
  ckcr : Nat
  pfcr : Nat
  cacr : Nat
  dccr : Nat
  bfcr : Nat
  cfbar : Nat
  cfblr : Nat
  cfblnr : Nat
  deriving DecidableEq, Repr, Inhabited

/-- The reset word of each layer register, the same for every layer and for both of its copies (R53). -/
structure LayerResets where
  cr : Word
  whpcr : Word
  wvpcr : Word
  ckcr : Word
  pfcr : Word
  cacr : Word
  dccr : Word
  bfcr : Word
  cfbar : Word
  cfblr : Word
  cfblnr : Word
  deriving DecidableEq, Repr, Inhabited

/-- The reset word of each device register (D20; 10_state.md R36 to R53, R57). DWT_CYCCNT has none, its value at reset is a
draw (R57), and FMC_SDSR has none, since its one flag BUSY is 0 at reset by R57, R226 and R46 (log 8). -/
structure RegResets where
  dwtCtrl : Word
  demcr : Word
  ahb3rstr : Word
  ahb3enr : Word
  sdcr1 : Word
  sdcr2 : Word
  sdtr1 : Word
  sdtr2 : Word
  sdcmr : Word
  sdrtr : Word
  sscr : Word
  bpcr : Word
  awcr : Word
  twcr : Word
  gcr : Word
  srcr : Word
  bccr : Word
  layer : LayerResets
  deriving DecidableEq, Repr, Inhabited

/-- `RegMap` (R12, D20): the address of every device register and of the SDRAM windows (20_memory.md R86), the position of
every field, and the reset value of every register. -/
structure RegMap where
  dwtCtrl : Nat
  dwtCyccnt : Nat
  demcr : Nat
  ahb3rstr : Nat
  ahb3enr : Nat
  sdcr1 : Nat
  sdcr2 : Nat
  sdtr1 : Nat
  sdtr2 : Nat
  sdcmr : Nat
  sdrtr : Nat
  sdsr : Nat
  sscr : Nat
  bpcr : Nat
  awcr : Nat
  twcr : Nat
  gcr : Nat
  srcr : Nat
  bccr : Nat
  /-- the bases of the layers, layer 1 first -/
  layerBases : List Nat
  layerOffsets : LayerOffsets
  sdramBank1 : Nat
  sdramBank2 : Nat
  fields : FieldMap
  resets : RegResets
  deriving DecidableEq, Repr, Inhabited

/-! ### The other parameters (R12) -/

/-- The fields of an SDRAM control register (10_state.md R41). -/
inductive CtrlField where
  | nc | nr | mwid | nb | cas | wp | sdclk | rburst | rpipe
  deriving DecidableEq, Repr, Inhabited

/-- The fields of an SDRAM timing register (10_state.md R42). -/
inductive TimField where
  | tmrd | txsr | tras | trc | twr | trp | trcd
  deriving DecidableEq, Repr, Inhabited

/-- One pair (subtract, minimum) of `TIMING_SUBMIN` (43_timing_calc.md R203, D18). -/
structure SubMin where
  subtract : Nat := 1
  minimum : Nat := 0
  deriving DecidableEq, Repr, Inhabited

/-- `TIMING_SUBMIN`: one pair per SDRAM timing field, default (1, 0) (D18). -/
structure TimingSubMin where
  rcd : SubMin := {}
  rp : SubMin := {}
  wr : SubMin := {}
  rc : SubMin := {}
  ras : SubMin := {}
  xsr : SubMin := {}
  mrd : SubMin := {}
  deriving DecidableEq, Repr, Inhabited

/-- `SDRAM_FIELD_VALUES`: each legal geometry value with its field code (44_sdram_sequencer.md R229,
30_encoding.md R116, D48). -/
structure SdramFieldValues where
  colBits : List (Nat × BitVec 2) := [(8, 0), (9, 1), (10, 2), (11, 3)]
  rowBits : List (Nat × BitVec 2) := [(11, 0), (12, 1), (13, 2)]
  dataWidth : List (Nat × BitVec 2) := [(8, 0), (16, 1), (32, 2)]
  internalBanks : List (Nat × BitVec 1) := [(2, 0), (4, 1)]
  casLatency : List (Nat × BitVec 2) := [(1, 1), (2, 2), (3, 3)]
  sdclkDiv : List (Nat × BitVec 2) := [(2, 2), (3, 3)]
  readPipe : List (Nat × BitVec 2) := [(0, 0), (1, 1), (2, 2)]
  deriving DecidableEq, Repr, Inhabited

/-- `RGB565_EXPAND` (45_ltdc.md R285, D37): the spec's `floor(v × 255 / max)`, or a table of another expansion,
one entry per 5-bit and per 6-bit value. -/
inductive RgbExpand where
  | normalize
  | table (five six : List Byte)
  deriving DecidableEq, Repr, Inhabited

/-- One item of `IRQ_PROGRAM` (60_exceptions.md R344): a block operation or a raw 32-bit register access. -/
inductive IrqItem where
  | op (i : Instr)
  | regRead (r : Reg)
  | regWrite (r : Reg) (w : Word)
  deriving DecidableEq, Repr, Inhabited

/-- The parameters of 00_scope.md R12 that the spec leaves open, with its defaults; `Params.default` has R86's map beside
them. `NUM_LAYERS` is the number of layers State holds (log 17). R12 gives three of them no default, and the values here
are the model's (DESIGN CHOICE, log 7): `CLK_HZ` 180 MHz, `FMC_RESPONDS` true, `LTDC_RESPONDS` true. R12 has `CLK_HZ` at
least 1 and says nothing of 0: a record with `clkHz = 0` is accepted, and the operations compute with the 0 (DESIGN CHOICE,
log 7); `CLK_HZ` is a u32, the type in which CLK_FREQ returns it (DEDUCED, log 7). -/
structure Params where
  clkHz : Word := 180000000
  fmcResponds : Bool := true
  ltdcResponds : Bool := true
  timingFieldBits : Nat := 4
  timingSubMin : TimingSubMin := {}
  bank1OnlyCtrl : List CtrlField := [.sdclk, .rburst, .rpipe]
  bank1OnlyTiming : List TimField := [.tras, .trp]
  mrOpmodeStandard : BitVec 2 := 2
  hFieldBits : Nat := 12
  vFieldBits : Nat := 11
  cfbllBias : Nat := 3
  rgb565Expand : RgbExpand := .normalize
  fieldValues : SdramFieldValues := {}
  regMap : RegMap
  irqProgram : List IrqItem := []
  deriving DecidableEq, Repr, Inhabited

/-! ### Which agent moves (00_scope.md R8) -/

/-- The kinds of step of the five agents (R8); the LTDC agent has two (45_ltdc.md R289). -/
inductive Mover where
  | host | tick | fmc | ltdcReload | ltdcVBlank | irq
  deriving DecidableEq, Repr, Inhabited

/-! ### Free values -/

/-- Which agent moves when State's schedule says nothing (R9: the order is unconstrained; log 2). -/
opaque Config.nextMover : Nat → Mover

/-- The bits a register read returns where the spec gives them no value (10_state.md R45, 93 U14, U17; log 10). -/
opaque Config.freeBits : Nat → Word

/-- What a byte of SDRAM that nothing has written holds, by address (20_memory.md R81 gives no contents; log 13). -/
opaque Config.sdramPowerOn : Nat → Byte

end Sys2Proof
end

