-- ==== Sys2Proof/Machine/Layout.lean ====
section
/-! DEFINITION. The register map (00_scope.md R3, R12, D20): the default addresses (20_memory.md R86), field positions and reset
values (10_state.md, 30_encoding.md), what a field holds, the bits and the reset word of each register, and the words that the
block puts together from fields. A word of a register is made and read through these alone, so that another map changes
no meaning. -/

namespace Sys2Proof

/-! ### Fields -/

/-- The bits of a field. -/
def BitField.mask (f : BitField) : Word := BitVec.ofNat 32 ((2 ^ f.width - 1) * 2 ^ f.pos)

/-- A word that has `v` in the field and 0 elsewhere. -/
def BitField.put (f : BitField) (v : Nat) : Word := BitVec.ofNat 32 (v % 2 ^ f.width * 2 ^ f.pos)

/-- `Field(name, f)`: what a word has in the field (00_scope.md R15). -/
def BitField.get (f : BitField) (w : Word) : Nat := w.toNat / 2 ^ f.pos % 2 ^ f.width

/-- A flag as a field. -/
def BitField.putBit (f : BitField) (b : Bool) : Word := f.put b.toNat

/-- The flag in a field of one bit. -/
def BitField.isSet (f : BitField) (w : Word) : Bool := f.get w != 0

/-- The bits of several fields. -/
def fieldsMask (fs : List BitField) : Word := fs.foldr (fun f m => f.mask ||| m) 0

/-- Two fields share no bit. -/
def BitField.apart (f g : BitField) : Bool := decide (f.pos + f.width ≤ g.pos) || decide (g.pos + g.width ≤ f.pos)

/-- The fields lie in a register of 32 bits, each bit in one of them at most. -/
def fieldsFit : List BitField → Bool
  | [] => true
  | f :: rest => decide (f.pos + f.width ≤ 32) && rest.all f.apart && fieldsFit rest

/-! ### The default map (20_memory.md R86; 10_state.md R36, R40 to R45, R49 to R53; 30_encoding.md R112) -/

/-- Byte offsets of the layer registers (R53). -/
def LayerOffsets.default : LayerOffsets where
  cr := 0x00
  whpcr := 0x04
  wvpcr := 0x08
  ckcr := 0x0C
  pfcr := 0x10
  cacr := 0x14
  dccr := 0x18
  bfcr := 0x1C
  cfbar := 0x28
  cfblr := 0x2C
  cfblnr := 0x30

/-- Positions in the SDRAM controller's registers (R41 to R44, R112). -/
def SdcrFields.default : SdcrFields where
  nc := ⟨0, 2⟩
  nr := ⟨2, 2⟩
  mwid := ⟨4, 2⟩
  nb := ⟨6, 1⟩
  cas := ⟨7, 2⟩
  wp := ⟨9, 1⟩
  sdclk := ⟨10, 2⟩
  rburst := ⟨12, 1⟩
  rpipe := ⟨13, 2⟩

def SdtrFields.default : SdtrFields where
  tmrd := ⟨0, 4⟩
  txsr := ⟨4, 4⟩
  tras := ⟨8, 4⟩
  trc := ⟨12, 4⟩
  twr := ⟨16, 4⟩
  trp := ⟨20, 4⟩
  trcd := ⟨24, 4⟩

def SdcmrFields.default : SdcmrFields where
  mode := ⟨0, 3⟩
  ctb2 := ⟨3, 1⟩
  ctb1 := ⟨4, 1⟩
  nrfs := ⟨5, 4⟩
  mrd := ⟨9, 13⟩

def SdrtrFields.default : SdrtrFields where
  cre := ⟨0, 1⟩
  count := ⟨1, 13⟩
  reie := ⟨14, 1⟩

/-- Positions in LTDC_GCR (R49). -/
def GcrFields.default : GcrFields where
  ltdcen := ⟨0, 1⟩
  dbw := ⟨4, 3⟩
  dgw := ⟨8, 3⟩
  drw := ⟨12, 3⟩
  den := ⟨16, 1⟩
  pcpol := ⟨28, 1⟩
  depol := ⟨29, 1⟩
  vspol := ⟨30, 1⟩
  hspol := ⟨31, 1⟩

/-- Positions in LTDC_BCCR, LxCKCR and LxDCCR (R51, R53, R119). -/
def ColourFields.default : ColourFields := ⟨⟨0, 8⟩, ⟨8, 8⟩, ⟨16, 8⟩⟩

/-- Positions in the boundary and window registers (R50, R53, R120). -/
def PairPos.default : PairPos := ⟨16, 0⟩

/-- Positions in the layer registers (R53). -/
def LayerFields.default : LayerFields where
  len := ⟨0, 1⟩
  colken := ⟨1, 1⟩
  cluten := ⟨4, 1⟩
  whpcr := .default
  wvpcr := .default
  ckcr := .default
  pf := ⟨0, 3⟩
  consta := ⟨0, 8⟩
  dccr := .default
  dcalpha := ⟨24, 8⟩
  bf2 := ⟨0, 3⟩
  bf1 := ⟨8, 3⟩
  cfbadd := ⟨0, 32⟩
  cfbll := ⟨0, 13⟩
  cfbp := ⟨16, 13⟩
  cfblnbr := ⟨0, 11⟩

/-- Every default position. -/
def FieldMap.default : FieldMap where
  trcena := ⟨24, 1⟩
  cyccntena := ⟨0, 1⟩
  fmcrst := ⟨0, 1⟩
  fmcen := ⟨0, 1⟩
  sdcr := .default
  sdtr := .default
  sdcmr := .default
  sdrtr := .default
  busy := ⟨5, 1⟩
  gcr := .default
  sscr := .default
  bpcr := .default
  awcr := .default
  twcr := .default
  bccr := .default
  imr := ⟨0, 1⟩
  vbr := ⟨1, 1⟩
  layer := .default

/-- The default reset words of the layer registers (R53). -/
def LayerResets.default : LayerResets where
  cr := 0
  whpcr := 0
  wvpcr := 0
  ckcr := 0
  pfcr := 0
  cacr := 0xFF
  dccr := 0
  bfcr := 0x00000607
  cfbar := 0
  cfblr := 0
  cfblnr := 0

/-- The default reset words (R57). -/
def RegResets.default : RegResets where
  dwtCtrl := 0
  demcr := 0
  ahb3rstr := 0
  ahb3enr := 0
  sdcr1 := 0x000002D0
  sdcr2 := 0x000002D0
  sdtr1 := 0x0FFFFFFF
  sdtr2 := 0x0FFFFFFF
  sdcmr := 0
  sdrtr := 0
  sscr := 0
  bpcr := 0
  awcr := 0
  twcr := 0
  gcr := 0x00002220
  srcr := 0
  bccr := 0
  layer := .default

/-- The default `RegMap` (R86). -/
def RegMap.default : RegMap where
  dwtCtrl := 0xE0001000
  dwtCyccnt := 0xE0001004
  demcr := 0xE000EDFC
  ahb3rstr := 0x40023818
  ahb3enr := 0x40023838
  sdcr1 := 0xA0000140
  sdcr2 := 0xA0000144
  sdtr1 := 0xA0000148
  sdtr2 := 0xA000014C
  sdcmr := 0xA0000150
  sdrtr := 0xA0000154
  sdsr := 0xA0000158
  sscr := 0x40016808
  bpcr := 0x4001680C
  awcr := 0x40016810
  twcr := 0x40016814
  gcr := 0x40016818
  srcr := 0x40016824
  bccr := 0x4001682C
  layerBases := [0x40016884, 0x40016904]
  layerOffsets := .default
  sdramBank1 := 0xC0000000
  sdramBank2 := 0xD0000000
  fields := .default
  resets := .default

/-- The default parameters (R12). -/
def Params.default : Params := { regMap := .default }

/-! ### Addresses -/

/-- The offset of a layer register (R53). -/
def LayerOffsets.get (o : LayerOffsets) : LayerReg → Nat
  | .cr => o.cr
  | .whpcr => o.whpcr
  | .wvpcr => o.wvpcr
  | .ckcr => o.ckcr
  | .pfcr => o.pfcr
  | .cacr => o.cacr
  | .dccr => o.dccr
  | .bfcr => o.bfcr
  | .cfbar => o.cfbar
  | .cfblr => o.cfblr
  | .cfblnr => o.cfblnr

/-- The address of a register (R86). A layer with no base in the map has none: its registers exist in State and the
operations reach them by name (DESIGN CHOICE, log 8). -/
def RegMap.addr (m : RegMap) : Reg → Option Nat
  | .dwtCtrl => some m.dwtCtrl
  | .dwtCyccnt => some m.dwtCyccnt
  | .demcr => some m.demcr
  | .ahb3rstr => some m.ahb3rstr
  | .ahb3enr => some m.ahb3enr
  | .sdcr1 => some m.sdcr1
  | .sdcr2 => some m.sdcr2
  | .sdtr1 => some m.sdtr1
  | .sdtr2 => some m.sdtr2
  | .sdcmr => some m.sdcmr
  | .sdrtr => some m.sdrtr
  | .sdsr => some m.sdsr
  | .sscr => some m.sscr
  | .bpcr => some m.bpcr
  | .awcr => some m.awcr
  | .twcr => some m.twcr
  | .gcr => some m.gcr
  | .srcr => some m.srcr
  | .bccr => some m.bccr
  | .layer k r => if k = 0 then none else (m.layerBases[k - 1]?).map (· + m.layerOffsets.get r)

/-- The registers of a machine with `n` layers (R53, R86). -/
def Reg.all (n : Nat) : List Reg :=
  [.dwtCtrl, .dwtCyccnt, .demcr, .ahb3rstr, .ahb3enr, .sdcr1, .sdcr2, .sdtr1, .sdtr2, .sdcmr, .sdrtr, .sdsr,
    .sscr, .bpcr, .awcr, .twcr, .gcr, .srcr, .bccr] ++
  (List.range n).flatMap fun k => LayerReg.all.map (Reg.layer (k + 1))

/-- Every address of the map is a multiple of 4 (20_memory.md R83): of a register, of a window, and of a layer's base, which
R86 lists among the addresses (DEDUCED, log 8). Nothing else is asked of an address: one at or past 2^32 is accepted,
operations reach its register by name, and no host access does (DESIGN CHOICE, log 8). -/
def RegMap.aligned (m : RegMap) : Bool :=
  ((Reg.all m.layerBases.length).filterMap m.addr ++ m.layerBases ++ [m.sdramBank1, m.sdramBank2]).all (· % 4 == 0)

/-! ### The fields and the bits of each register -/

/-- The field of an SDRAM control register by name (10_state.md R41). -/
def SdcrFields.field (m : SdcrFields) : CtrlField → BitField
  | .nc => m.nc
  | .nr => m.nr
  | .mwid => m.mwid
  | .nb => m.nb
  | .cas => m.cas
  | .wp => m.wp
  | .sdclk => m.sdclk
  | .rburst => m.rburst
  | .rpipe => m.rpipe

/-- The field of an SDRAM timing register by name (R42). -/
def SdtrFields.field (m : SdtrFields) : TimField → BitField
  | .tmrd => m.tmrd
  | .txsr => m.txsr
  | .tras => m.tras
  | .trc => m.trc
  | .twr => m.twr
  | .trp => m.trp
  | .trcd => m.trcd

/-- The high field of a pair register, `bits` wide (R50). -/
def PairPos.high (q : PairPos) (bits : Nat) : BitField := ⟨q.hi, bits⟩

/-- The low field of a pair register, `bits` wide (R50). -/
def PairPos.low (q : PairPos) (bits : Nat) : BitField := ⟨q.lo, bits⟩

/-- The channels of a colour register. -/
def ColourFields.all (c : ColourFields) : List BitField := [c.blue, c.green, c.red]

/-- The read-write fields of LTDC_GCR (R49). -/
def GcrFields.written (g : GcrFields) : List BitField := [g.ltdcen, g.den, g.pcpol, g.depol, g.vspol, g.hspol]

/-- The read-only fields of LTDC_GCR: the dither widths (R49). -/
def GcrFields.readOnly (g : GcrFields) : List BitField := [g.dbw, g.dgw, g.drw]

/-- The fields of a layer register (R53). The window fields are as wide as the boundary fields: R53 gives the widths for
the default parameters, R274 checks against them for all (DESIGN CHOICE, log 32). -/
def Params.layerFieldsOf (p : Params) : LayerReg → List BitField
  | .cr => [p.regMap.fields.layer.len, p.regMap.fields.layer.colken, p.regMap.fields.layer.cluten]
  | .whpcr => [p.regMap.fields.layer.whpcr.high p.hFieldBits, p.regMap.fields.layer.whpcr.low p.hFieldBits]
  | .wvpcr => [p.regMap.fields.layer.wvpcr.high p.vFieldBits, p.regMap.fields.layer.wvpcr.low p.vFieldBits]
  | .ckcr => p.regMap.fields.layer.ckcr.all
  | .pfcr => [p.regMap.fields.layer.pf]
  | .cacr => [p.regMap.fields.layer.consta]
  | .dccr => p.regMap.fields.layer.dcalpha :: p.regMap.fields.layer.dccr.all
  | .bfcr => [p.regMap.fields.layer.bf2, p.regMap.fields.layer.bf1]
  | .cfbar => [p.regMap.fields.layer.cfbadd]
  | .cfblr => [p.regMap.fields.layer.cfbll, p.regMap.fields.layer.cfbp]
  | .cfblnr => [p.regMap.fields.layer.cfblnbr]

/-- The fields of a control register, all of them (R41). -/
def SdcrFields.all (m : SdcrFields) : List BitField :=
  [m.nc, m.nr, m.mwid, m.nb, m.cas, m.wp, m.sdclk, m.rburst, m.rpipe]

/-- The fields of a timing register, all of them (R42). -/
def SdtrFields.all (m : SdtrFields) : List BitField := [m.tmrd, m.txsr, m.tras, m.trc, m.twr, m.trp, m.trcd]

/-- The fields of a device register (R36, R40 to R45, R49 to R53). -/
def Params.fieldsOf (p : Params) : Reg → List BitField
  | .dwtCtrl => [p.regMap.fields.cyccntena]
  | .dwtCyccnt => [⟨0, 32⟩]
  | .demcr => [p.regMap.fields.trcena]
  | .ahb3rstr => [p.regMap.fields.fmcrst]
  | .ahb3enr => [p.regMap.fields.fmcen]
  | .sdcr1 => p.regMap.fields.sdcr.all
  | .sdcr2 => p.regMap.fields.sdcr.all
  | .sdtr1 => p.regMap.fields.sdtr.all
  | .sdtr2 => p.regMap.fields.sdtr.all
  | .sdcmr => [p.regMap.fields.sdcmr.mode, p.regMap.fields.sdcmr.ctb2, p.regMap.fields.sdcmr.ctb1,
      p.regMap.fields.sdcmr.nrfs, p.regMap.fields.sdcmr.mrd]
  | .sdrtr => [p.regMap.fields.sdrtr.cre, p.regMap.fields.sdrtr.count, p.regMap.fields.sdrtr.reie]
  | .sdsr => [p.regMap.fields.busy]
  | .sscr => [p.regMap.fields.sscr.high p.hFieldBits, p.regMap.fields.sscr.low p.vFieldBits]
  | .bpcr => [p.regMap.fields.bpcr.high p.hFieldBits, p.regMap.fields.bpcr.low p.vFieldBits]
  | .awcr => [p.regMap.fields.awcr.high p.hFieldBits, p.regMap.fields.awcr.low p.vFieldBits]
  | .twcr => [p.regMap.fields.twcr.high p.hFieldBits, p.regMap.fields.twcr.low p.vFieldBits]
  | .gcr => p.regMap.fields.gcr.written ++ p.regMap.fields.gcr.readOnly
  | .srcr => [p.regMap.fields.imr, p.regMap.fields.vbr]
  | .bccr => p.regMap.fields.bccr.all
  | .layer _ r => p.layerFieldsOf r

/-- The bits of a register to which the spec gives a value (log 10). FMC_SDCMR reads back as written, whole (R43). -/
def Params.mask (p : Params) (r : Reg) : Word :=
  match r with
  | .sdcmr => 0xFFFFFFFF
  | r => fieldsMask (p.fieldsOf r)

/-- The bits that a write of a register stores (R85): not the read-only dither widths (R49), not BUSY (R45), and not CRE,
a command bit that holds nothing (R44, log 22). FMC_SDCMR stores the whole word (R43). -/
def Params.writeMask (p : Params) (r : Reg) : Word :=
  match r with
  | .gcr => fieldsMask p.regMap.fields.gcr.written &&& ~~~fieldsMask p.regMap.fields.gcr.readOnly
  | .sdrtr => fieldsMask [p.regMap.fields.sdrtr.count, p.regMap.fields.sdrtr.reie]
  | .sdsr => 0
  | r => p.mask r

/-! ### Reset words (10_state.md R41 to R53, R57; D20) -/

/-- The word the map gives for a layer register. -/
def LayerResets.get (m : LayerResets) : LayerReg → Word
  | .cr => m.cr
  | .whpcr => m.whpcr
  | .wvpcr => m.wvpcr
  | .ckcr => m.ckcr
  | .pfcr => m.pfcr
  | .cacr => m.cacr
  | .dccr => m.dccr
  | .bfcr => m.bfcr
  | .cfbar => m.cfbar
  | .cfblr => m.cfblr
  | .cfblnr => m.cfblnr

/-- The word the map gives for a register, 0 for the two that have none. -/
def RegResets.get (m : RegResets) : Reg → Word
  | .dwtCtrl => m.dwtCtrl
  | .dwtCyccnt => 0
  | .demcr => m.demcr
  | .ahb3rstr => m.ahb3rstr
  | .ahb3enr => m.ahb3enr
  | .sdcr1 => m.sdcr1
  | .sdcr2 => m.sdcr2
  | .sdtr1 => m.sdtr1
  | .sdtr2 => m.sdtr2
  | .sdcmr => m.sdcmr
  | .sdrtr => m.sdrtr
  | .sdsr => 0
  | .sscr => m.sscr
  | .bpcr => m.bpcr
  | .awcr => m.awcr
  | .twcr => m.twcr
  | .gcr => m.gcr
  | .srcr => m.srcr
  | .bccr => m.bccr
  | .layer _ r => m.layer.get r

/-- What a device register holds at reset: the word of the map (D20) in the bits that the register stores (log 8). -/
def Params.resetWord (p : Params) (r : Reg) : Word :=
  match r with
  | .gcr => p.regMap.resets.gcr &&& p.mask .gcr
  | r => p.regMap.resets.get r &&& p.writeMask r

/-! ### Words put together from fields -/

/-- The SDRAM command word in FMC_SDCMR (30_encoding.md R112). -/
def SdcmrFields.word (m : SdcmrFields) (mode : BitVec 3) (ctb1 ctb2 : Bool) (nrfs : BitVec 4) (mrd : BitVec 13) : Word :=
  m.mode.put mode.toNat ||| m.ctb2.putBit ctb2 ||| m.ctb1.putBit ctb1 ||| m.nrfs.put nrfs.toNat ||| m.mrd.put mrd.toNat

/-- A pair register: `hi` in the high field, `hBits` wide, and `lo` in the low one, `lBits` wide (R120). -/
def PairPos.word (q : PairPos) (hBits lBits hi lo : Nat) : Word := (q.high hBits).put hi ||| (q.low lBits).put lo

/-- A boundary register (10_state.md R50). -/
def Params.boundary (p : Params) (q : PairPos) (h v : Nat) : Word := q.word p.hFieldBits p.vFieldBits h v

/-- The horizontal window register of a layer (R53, R120). -/
def Params.windowH (p : Params) (stop start : Nat) : Word :=
  p.regMap.fields.layer.whpcr.word p.hFieldBits p.hFieldBits stop start

/-- The vertical window register of a layer (R53, R120). -/
def Params.windowV (p : Params) (stop start : Nat) : Word :=
  p.regMap.fields.layer.wvpcr.word p.vFieldBits p.vFieldBits stop start

/-- The line-length register of a layer (R53, 45_ltdc.md R283). -/
def LayerFields.lineWord (m : LayerFields) (pitch len : Nat) : Word := m.cfbp.put pitch ||| m.cfbll.put len

/-- A colour register: the three channels of an RGB888 value (R119). -/
def ColourFields.word (c : ColourFields) (rgb : Word) : Word :=
  c.blue.put (rgb.extractLsb' 0 8).toNat ||| c.green.put (rgb.extractLsb' 8 8).toNat |||
    c.red.put (rgb.extractLsb' 16 8).toNat

/-- The polarity bits of LTDC_GCR (45_ltdc.md R277). -/
def GcrFields.polarity (g : GcrFields) (hs vs de pc : Bool) : Word :=
  g.hspol.putBit hs ||| g.vspol.putBit vs ||| g.depol.putBit de ||| g.pcpol.putBit pc

/-- The bits of the four polarities (R277). -/
def GcrFields.polarityMask (g : GcrFields) : Word := fieldsMask [g.hspol, g.vspol, g.depol, g.pcpol]

/-! ### What R12 and the register layouts ask of the parameters -/

/-- One register of each kind. -/
def Reg.kinds : List Reg := Reg.all 1

/-- The fields whose width the values put into them fix (10_state.md R36 to R53, 30_encoding.md R112), with that width. -/
def FieldMap.fixedWidths (m : FieldMap) : List (BitField × Nat) :=
  ([m.trcena, m.cyccntena, m.fmcrst, m.fmcen, m.busy, m.imr, m.vbr, m.sdcr.nb, m.sdcr.wp, m.sdcr.rburst, m.sdcmr.ctb2,
    m.sdcmr.ctb1, m.sdrtr.cre, m.sdrtr.reie, m.layer.len, m.layer.colken, m.layer.cluten] ++ m.gcr.written).map (·, 1) ++
  [m.sdcr.nc, m.sdcr.nr, m.sdcr.mwid, m.sdcr.cas, m.sdcr.sdclk, m.sdcr.rpipe].map (·, 2) ++
  ([m.sdcmr.mode, m.layer.pf, m.layer.bf1, m.layer.bf2] ++ m.gcr.readOnly).map (·, 3) ++
  ([m.layer.consta, m.layer.dcalpha] ++ m.bccr.all ++ m.layer.ckcr.all ++ m.layer.dccr.all).map (·, 8) ++
  [(m.sdcmr.nrfs, 4), (m.sdcmr.mrd, 13), (m.layer.cfbadd, 32)]

/-- A layout: in every register the fields lie in its 32 bits and share none, and each is as wide as what is put into it. A
map with another layout is accepted and its words are made bit by bit all the same (DESIGN CHOICE, log 8). -/
def Params.layoutOk (p : Params) : Bool :=
  Reg.kinds.all (fun r => fieldsFit (p.fieldsOf r)) &&
    p.regMap.fields.fixedWidths.all (fun f => f.1.width == f.2) &&
    p.regMap.fields.sdtr.all.all (fun f => decide (p.timingFieldBits ≤ f.width))

/-- What R12 and the layouts ask of the parameters: a clock of at least 1 Hz, an aligned register map (R83), a layout. Of the
three a step checks the map's alignment only; the others are words for claims (DESIGN CHOICE, log 7 and 8). -/
def Params.legal (p : Params) : Bool := p.clkHz != 0 && p.regMap.aligned && p.layoutOk

end Sys2Proof
end

