-- ==== Sys2Proof/Machine/State.lean ====
section
/-! DEFINITION. Everything the spec gives the machine, as plain data (10_state.md), and the state after reset (R57). -/

namespace Sys2Proof.Machine

/-- The closed list of fault reasons (60_exceptions.md R340). A fault is recorded in `State.faulted` (R34); no meaning
stops the machine with one. Safe: a faulted run is no successful run (R34). -/
inductive Fault where
  /-- raised by DLY_DURATION: the duration is not Ticks and carries no frequency (41_delay.md R169); safe -/
  | conversionFailure
  /-- raised by a write to FMC_SDCMR while BUSY = 1 (44_sdram_sequencer.md R245); safe -/
  | commandCorrupted
  /-- raised by a host access to the window of a bank that is not live (20_memory.md R81); safe -/
  | sdramNotLive
  /-- raised by a host read of RES before any operation has returned a result (10_state.md R30); safe -/
  | resUnwritten
  deriving DecidableEq, Repr, Inhabited

/-- The closed list of refusal reasons (60_exceptions.md R341), recorded in `State.refused` (R34), and three of the
model's own. Safe: a refused run is no successful run (R34). -/
inductive Refusal where
  /-- raised by a reserved opcode (30_encoding.md R106); safe -/
  | reservedOpcode
  /-- raised by an operand outside its legal set (R107); safe -/
  | badOperand
  /-- raised by a conversion whose result does not fit its width (R148, R149, R201, R202); safe -/
  | overflow
  /-- raised by a negative floating-point duration (R149); safe -/
  | negativeDuration
  /-- raised by a delay of t > 0, or a bring-up, while the counter is stopped (R172, R223); safe -/
  | counterDisabled
  /-- raised by SW_NEW on a live handle (R180); safe -/
  | handleInUse
  /-- raised by a StopWatch operation on an unknown handle (R181 to R185); safe -/
  | noSuchHandle
  /-- raised by a value that does not fit its register field (R203, R271, R274, R283); safe -/
  | fieldOverflow
  /-- raised by a command MODE the block does not issue (R113, R242); safe -/
  | unsupportedCommand
  /-- raised by SD_BRINGUP while SEQ_PHASE is not IDLE (R250); safe -/
  | sequencerReentered
  /-- raised by CS_EXIT on an empty stack, or by an interrupt activation that ends unbalanced (R331, R344); safe -/
  | unbalancedCriticalSection
  /-- raised by a RegMap with an unaligned address, before any step (R83); safe -/
  | badRegMap
  /-- raised by a host access to a block register that is not the four bytes of one register (R82, log 14); safe -/
  | mixedWidthAccess
  /-- the model's own, answered by `step` and not recorded: a host access that reaches no register and no bank that is
  not live, with a byte that lies in no SDRAM window; the spec gives it no meaning (log 14); safe -/
  | outsideBlock
  /-- the model's own, answered by `step` and not recorded: a host write of a block register beside the operations, which
  has no move in the model (70_reset_and_hazards.md R388, log 14); safe -/
  | hostRegisterAccess
  /-- the model's own: the arm of an instruction that has no meaning yet (none is left); safe -/
  | notModelled (mnemonic : String)
  deriving DecidableEq, Repr, Inhabited

/-- `Bank` (00_scope.md R17, 44_sdram_sequencer.md R220). -/
inductive Bank where
  | bankA | bankB | bothBanks
  deriving DecidableEq, Repr, Inhabited

/-- `ReloadMode` (R17, R104). -/
inductive ReloadMode where
  | immediate | verticalBlank
  deriving DecidableEq, Repr, Inhabited

/-- `SEQ_PHASE` (10_state.md R48, 44_sdram_sequencer.md R221), in its fixed order. -/
inductive SeqPhase where
  | idle | clockEnable | geometry | timing | cmdClk | cmdPall | cmdAref | cmdLmr | refresh | live
  deriving DecidableEq, Repr, Inhabited

/-- `TimingSpecCycles` (43_timing_calc.md R200). -/
structure TimingSpecCycles where
  rcd : Nat
  rp : Nat
  wr : Nat
  rc : Nat
  ras : Nat
  xsr : Nat
  mrd : Nat
  refresh : BitVec 16
  deriving DecidableEq, Repr, Inhabited

/-- The value RES holds; its type depends on the operation (10_state.md R30, 30_encoding.md R105). -/
inductive Value where
  | u32 (v : Word)
  | u16 (v : BitVec 16)
  | u13 (v : BitVec 13)
  | u24 (v : BitVec 24)
  | hz (v : Word)
  | bool (b : Bool)
  | okTicks (t : DWord)
  | errNoFrequency
  | duration (d : Option Duration)
  | cycles (c : TimingSpecCycles)
  deriving DecidableEq, Repr, Inhabited

/-- One entry of `SDRAM_LOG` (10_state.md R47): the bank set, the command MODE, its argument and CYCCNT at completion. -/
structure SdramEntry where
  bank1 : Bool
  bank2 : Bool
  mode : BitVec 3
  arg : Option Nat
  at_ : Word
  deriving DecidableEq, Repr, Inhabited

/-- One event of `LTDC_LOG` (10_state.md R54, 45_ltdc.md R289). -/
inductive LtdcEvent where
  | reload (mode : ReloadMode) (at_ : Word)
  | vblank (at_ : Word)
  deriving DecidableEq, Repr, Inhabited

/-- A StopWatch instance (10_state.md R39); `samples` has one slot per unit of capacity. -/
structure StopWatch where
  cap : Nat
  samples : List (Option Word)
  cursor : Nat
  freq : Word
  it : Nat
  deriving DecidableEq, Repr, Inhabited

/-- One copy, shadow or active, of a layer's registers (10_state.md R53), with their reset values. -/
structure LayerRegs where
  cr : Word := 0
  whpcr : Word := 0
  wvpcr : Word := 0
  ckcr : Word := 0
  pfcr : Word := 0
  cacr : Word := 0xFF
  dccr : Word := 0
  bfcr : Word := 0x607
  cfbar : Word := 0
  cfblr : Word := 0
  cfblnr : Word := 0
  deriving DecidableEq, Repr, Inhabited

/-- A layer: the shadow copy that software writes and the active copy that the display uses (R53, R295). -/
structure Layer where
  shadow : LayerRegs := {}
  active : LayerRegs := {}
  deriving DecidableEq, Repr, Inhabited

/-- The wait registers of a delay in progress (10_state.md R38). -/
structure WaitRegs where
  start : Word
  rem : DWord
  sub : Word
  deriving DecidableEq, Repr, Inhabited

/-- What one host step of an operation does (00_scope.md R10, R16): one register access, one poll, or one change of the
mask or of the wait registers. -/
inductive Act where
  /-- the read half of a RegModify, or a read whose value a later step uses (R84) -/
  | read (r : Reg)
  /-- the write half of a RegModify: `mask` is the named fields, `val` their values (R15, R84) -/
  | writeMod (r : Reg) (mask val : Word)
  /-- RegWrite or RegWriteFields (R15) -/
  | write (r : Reg) (w : Word)
  /-- CS_ENTER (46_system.md R330) -/
  | enter
  /-- CS_EXIT (R331) -/
  | leave
  /-- the first step of a bring-up: CS_ENTER, SEQ_BANK and SEQ_PHASE together (R222) -/
  | enterBringup (b : Bank)
  /-- the read of the FMC clock enable that opens phase CLOCK_ENABLE, and the choice it makes (R224, R227) -/
  | clockBranch
  /-- the verify poll of the FMC clock enable (R225) -/
  | pollClock
  /-- the poll of FMC_SDSR.BUSY (R242, R243) -/
  | pollReady
  /-- the poll of the LTDC reload flags (45_ltdc.md R290) -/
  | pollReload
  /-- the first step of a delay of `t` ticks: the reference sample (41_delay.md R161) -/
  | delayStart (t : DWord)
  /-- one poll of a delay (R161, R163) -/
  | delayPoll
  /-- the second step of LT_WINDOW_XYWH: the checks of LT_WINDOW and its first write (45_ltdc.md R274, R275) -/
  | windowH (layer x y w h : Nat)
  /-- the third step of LT_WINDOW_XYWH: the second write of LT_WINDOW (R274, R275) -/
  | windowV (layer y h : Nat)
  deriving DecidableEq, Repr, Inhabited

/-- A host step still to be made: what it does, the phase SEQ_PHASE takes in it (44_sdram_sequencer.md R221), and the
number of the LT_SETUP sub-operation it belongs to (45_ltdc.md R300). -/
structure HostStep where
  act : Act
  phase : Option SeqPhase := none
  sub : Option Nat := none
  deriving DecidableEq, Repr, Inhabited

/-- The position of the running code in its operation (R10, R347): the host steps still to be made (none between two
operations), the word a RegModify or LT_WINDOW_XYWH has read, the wait registers (R38), LT_SETUP_STEP (R300). -/
structure Ctx where
  todo : List HostStep := []
  latch : Word := 0
  wait : Option WaitRegs := none
  setupStep : Option Nat := none
  deriving DecidableEq, Repr, Inhabited

/-- The position of code that is between two operations. -/
def Ctx.idle : Ctx := {}

/-- An interrupt activation in progress (60_exceptions.md R344): the position at which the host was preempted, the items
of IRQ_PROGRAM still to be run, and CS_STACK as it was when the activation began. -/
structure Activation where
  saved : Ctx
  rest : List IrqItem
  csStart : List Bool
  deriving DecidableEq, Repr, Inhabited

/-- A part of an invocation as the host writes it: bytes, or the name of a result it has read (30_encoding.md R109). -/
inductive OpPart where
  | bytes (bs : List Byte)
  | name (k : Nat)
  deriving DecidableEq, Repr, Inhabited

/-- One interaction of the host with the block (70_reset_and_hazards.md R388), in a model composed with the external
SDRAM (20_memory.md R81). -/
inductive HostAct where
  /-- invoke an operation: the opcode byte and the operand record (R30, R100) -/
  | op (parts : List OpPart)
  /-- hand the controller a command word of format SDCMR (log 6) -/
  | command (w : Word)
  /-- read RES (R30, R388) and bind it to a name (R109) -/
  | readRes (k : Nat)
  /-- read `n` bytes at a byte address -/
  | memRead (addr : Nat) (n : Nat)
  /-- write bytes from a byte address up -/
  | memWrite (addr : Nat) (bs : List Byte)
  deriving DecidableEq, Repr, Inhabited

/-- The most recent read, as R11 has it recorded (log 12). -/
inductive ReadRec where
  /-- a register: the part of the value that the spec gives, and which free value the open bits are (log 10) -/
  | reg (r : Reg) (known : Word) (draw : Nat)
  | res (v : Value)
  /-- SDRAM bytes, from a byte address up -/
  | mem (addr : Nat) (bs : List Byte)
  deriving DecidableEq, Repr, Inhabited

/-- The SDRAM bytes that have been written, by address, in one canonical form (`memoryWf`, log 13). -/
abbrev Memory := List Host.Cell

/-- The whole machine. The first five fields and `lastRead` are the model's own (INVENTORY.md, log 2, 3, 7, 10, 12,
28);
the rest is the spec's. -/
structure State where
  /-- the parameters of R12, constant for the run (R56) -/
  params : Params
  /-- the agents that move next, first first; beyond them `Config.nextMover` chooses (R9) -/
  sched : List Mover
  /-- how many free values have been drawn -/
  draws : Nat
  /-- the host's interactions still to come (R56, R388) -/
  program : List HostAct
  /-- the results the host has read, by the name it has bound them to (R109), names strictly rising -/
  names : List (Nat × Value)
  lastRead : Option ReadRec
  /-- the running code's position in its operation: interrupt code while an activation is in progress, else the host -/
  ctx : Ctx
  irq : Option Activation
  /-- RES (R30): no value before the first result -/
  res : Option Value
  /-- FAULTED (R34) -/
  faulted : Option Fault
  /-- REFUSED (R34) -/
  refused : Option Refusal
  /-- IMASK (R35) -/
  imask : Bool
  /-- CS_STACK (R35), newest first -/
  csStack : List Bool
  /-- CYCCNT (R31, R36) -/
  cyccnt : Word
  /-- DEMCR.TRCENA (R36) -/
  trcena : Bool
  /-- DWT_CTRL.CYCCNTENA (R36) -/
  cyccntena : Bool
  /-- the StopWatch instances by handle, handles strictly rising (R39) -/
  watches : List (Nat × StopWatch)
  /-- RCC_AHB3ENR.FMCEN (R40) -/
  fmcen : Bool
  /-- RCC_AHB3RSTR.FMCRST (R40) -/
  fmcrst : Bool
  sdcr1 : Word
  sdcr2 : Word
  sdtr1 : Word
  sdtr2 : Word
  sdcmr : Word
  sdrtr : Word
  /-- FMC_SDSR.BUSY (R45) -/
  busy : Bool
  /-- FMC_PENDING (R46) -/
  fmcPending : Option Word
  /-- SDRAM_LOG (R47), oldest first -/
  sdramLog : List SdramEntry
  /-- SEQ_PHASE (R48) -/
  seqPhase : SeqPhase
  /-- SEQ_BANK (R48) -/
  seqBank : Option Bank
  /-- SEQ_RESET_AFTER_LIVE (R48) -/
  seqResetAfterLive : Bool
  /-- the external SDRAM's bytes (R81) -/
  sdram : Memory
  gcr : Word
  sscr : Word
  bpcr : Word
  awcr : Word
  twcr : Word
  bccr : Word
  /-- LTDC_SRCR (R52): the flags IMR and VBR -/
  srcr : Word
  /-- the layers, layer 1 first; NUM_LAYERS is their number (R53, log 17) -/
  layers : List Layer
  /-- LTDC_LOG (R54), oldest first -/
  ltdcLog : List LtdcEvent
  deriving DecidableEq, Repr, Inhabited

/-- One copy of a layer's registers at reset (10_state.md R53). -/
def LayerRegs.reset (p : Params) : LayerRegs where
  cr := p.resetWord (.layer 1 .cr)
  whpcr := p.resetWord (.layer 1 .whpcr)
  wvpcr := p.resetWord (.layer 1 .wvpcr)
  ckcr := p.resetWord (.layer 1 .ckcr)
  pfcr := p.resetWord (.layer 1 .pfcr)
  cacr := p.resetWord (.layer 1 .cacr)
  dccr := p.resetWord (.layer 1 .dccr)
  bfcr := p.resetWord (.layer 1 .bfcr)
  cfbar := p.resetWord (.layer 1 .cfbar)
  cfblr := p.resetWord (.layer 1 .cfblr)
  cfblnr := p.resetWord (.layer 1 .cfblnr)

/-- The state after reset with the parameters `p`, `n` layers and the draw `c` of CYCCNT (R57, 70_reset_and_hazards.md
R370). -/
def State.resetFor (p : Params) (n : Nat) (c : Word) : State where
  params := p
  sched := []
  draws := 0
  program := []
  names := []
  lastRead := none
  ctx := Ctx.idle
  irq := none
  res := none
  faulted := none
  refused := none
  imask := false
  csStack := []
  cyccnt := c
  trcena := p.regMap.fields.trcena.isSet (p.resetWord .demcr)
  cyccntena := p.regMap.fields.cyccntena.isSet (p.resetWord .dwtCtrl)
  watches := []
  fmcen := p.regMap.fields.fmcen.isSet (p.resetWord .ahb3enr)
  fmcrst := p.regMap.fields.fmcrst.isSet (p.resetWord .ahb3rstr)
  sdcr1 := p.resetWord .sdcr1
  sdcr2 := p.resetWord .sdcr2
  sdtr1 := p.resetWord .sdtr1
  sdtr2 := p.resetWord .sdtr2
  sdcmr := p.resetWord .sdcmr
  sdrtr := p.resetWord .sdrtr
  busy := false
  fmcPending := none
  sdramLog := []
  seqPhase := .idle
  seqBank := none
  seqResetAfterLive := false
  sdram := []
  gcr := p.resetWord .gcr
  sscr := p.resetWord .sscr
  bpcr := p.resetWord .bpcr
  awcr := p.resetWord .awcr
  twcr := p.resetWord .twcr
  bccr := p.resetWord .bccr
  srcr := p.resetWord .srcr
  layers := List.replicate n ⟨LayerRegs.reset p, LayerRegs.reset p⟩
  ltdcLog := []

/-- The state after reset with the default parameters and the two layers of R53, for the draw `c` of CYCCNT. -/
def State.resetWith (c : Word) : State := State.resetFor .default 2 c

/-- The state after reset. R57 gives CYCCNT no value, any draw: this is the draw 0 (DESIGN CHOICE, log 9); what is said of
reset is said of every `resetWith c`. -/
def State.reset : State := State.resetWith 0

end Sys2Proof.Machine
end

