-- ==== Sys2Proof/Machine/Flags.lean ====
section
/-! DEFINITION. The block's flags and derived conditions (10_state.md R33, R36; 20_memory.md R81; 60_exceptions.md R343). -/

namespace Sys2Proof.Machine

/-- `CYCCNT_ENABLED` (R36): both enable bits are 1. -/
def State.counterEnabled (s : State) : Bool := s.trcena && s.cyccntena

/-- `LTDC_SRCR.IMR` (R52). -/
def State.imr (s : State) : Bool := s.params.regMap.fields.imr.isSet s.srcr

/-- `LTDC_SRCR.VBR` (R52). -/
def State.vbr (s : State) : Bool := s.params.regMap.fields.vbr.isSet s.srcr

/-- `LT_READY`: neither reload flag is set (R33, 45_ltdc.md R288). -/
def State.reloadReady (s : State) : Bool := !s.imr && !s.vbr

/-- `LTDC_GCR.LTDCEN` (R49). -/
def State.ltdcEnabled (s : State) : Bool := s.params.regMap.fields.gcr.ltdcen.isSet s.gcr

/-- The FMC registers take writes: the clock is on and the reset line is off (44_sdram_sequencer.md R226, R247). -/
def State.fmcWritable (s : State) : Bool := s.fmcen && !s.fmcrst

/-- `BUSY` as a read of FMC_SDSR gives it: 0 while the clock is off (R247) or the reset line asserted (R226). -/
def State.busyRead (s : State) : Bool := s.fmcWritable && s.busy

/-- A mark is set: the host and the interrupt code have no further step (60_exceptions.md R343). -/
def State.stopped (s : State) : Bool := s.faulted.isSome || s.refused.isSome

/-- Bank 1 is selected by the bring-up that ran (10_state.md R48, R81). -/
def State.bank1Selected (s : State) : Bool := s.seqBank = some .bankA || s.seqBank = some .bothBanks

/-- Bank 2 is selected by the bring-up that ran (R48, R81). -/
def State.bank2Selected (s : State) : Bool := s.seqBank = some .bankB || s.seqBank = some .bothBanks

/-- The bring-up has reached LIVE and the FMC was not reset since (R81). -/
def State.sdramUp (s : State) : Bool := s.seqPhase = .live && !s.seqResetAfterLive

/-- Bank 1 is live (R81). -/
def State.bank1Live (s : State) : Bool := s.sdramUp && s.bank1Selected

/-- Bank 2 is live (R81). -/
def State.bank2Live (s : State) : Bool := s.sdramUp && s.bank2Selected

/-- The FMC agent's step is enabled (44_sdram_sequencer.md R246, R226, R247). -/
def State.fmcEnabled (s : State) : Bool := s.fmcPending.isSome && s.fmcWritable && s.params.fmcResponds

/-- The LTDC agent's immediate reload is enabled (45_ltdc.md R289). -/
def State.reloadEnabled (s : State) : Bool := s.params.ltdcResponds && s.imr

/-- The LTDC agent's vertical blank is enabled (R289). -/
def State.vblankEnabled (s : State) : Bool := s.params.ltdcResponds && s.ltdcEnabled

end Sys2Proof.Machine
end

