-- ==== Sys2Proof/Decode.lean ====
section
/-! DEFINITION. The encoding of an operation (30_encoding.md R100 to R113): the opcode map, the byte layout of the operand
records, the decoder, total on any bytes, and the encoder after it. The spec gives an operand record's types (R105) and
no layout: the model packs the operands in R105's order, each in whole bytes, least significant byte first (log 4). -/

namespace Sys2Proof

/-- Why a byte string is no operation: a reserved opcode (R106), or a record that is not of the shape the opcode
fixes (R100; log 5). -/
inductive DecodeError where
  | reservedOpcode
  | malformedRecord
  deriving DecidableEq, Repr, Inhabited

/-! ### The opcode map (R105) -/

/-- The 47 operations, without operands. -/
inductive Opcode where
  | ccNow | ccElapsed | ccEnable | durToTicks
  | dlyTicks | dlyUs | dlyMs | dlySF32 | dlySF64 | dlyDuration
  | swNew | swLap | swLapTime | swReset | swIterNext
  | tcNanosToCycles | tcRefreshCounter | tcConvertSpec
  | sdBringup | sdSendCmd | sdWaitReady | sdModeWord
  | ltSetTiming | ltWindow | ltWindowXywh | ltReload | ltReady | ltWaitReady | ltBgcolor | ltPolarity
  | ltPixelFormat | ltDefaultColor | ltConstAlpha | ltBlend | ltColorKey | ltLineConfig | ltFbAddr | ltLayerEnable
  | ltDitherEnable | ltEnable | ltSetup | ltRgb565To888
  | csEnter | csExit | rccFmcEnable | rccFmcResetPulse | clkFreq
  deriving DecidableEq, Repr, Inhabited

/-- The opcode byte of an operation (R105). -/
def Opcode.code : Opcode → Byte
  | .ccNow => 0x01
  | .ccElapsed => 0x02
  | .ccEnable => 0x03
  | .durToTicks => 0x04
  | .dlyTicks => 0x10
  | .dlyUs => 0x11
  | .dlyMs => 0x12
  | .dlySF32 => 0x13
  | .dlySF64 => 0x14
  | .dlyDuration => 0x15
  | .swNew => 0x20
  | .swLap => 0x21
  | .swLapTime => 0x22
  | .swReset => 0x23
  | .swIterNext => 0x24
  | .tcNanosToCycles => 0x30
  | .tcRefreshCounter => 0x31
  | .tcConvertSpec => 0x32
  | .sdBringup => 0x40
  | .sdSendCmd => 0x41
  | .sdWaitReady => 0x42
  | .sdModeWord => 0x43
  | .ltSetTiming => 0x50
  | .ltWindow => 0x51
  | .ltWindowXywh => 0x52
  | .ltReload => 0x53
  | .ltReady => 0x54
  | .ltWaitReady => 0x55
  | .ltBgcolor => 0x56
  | .ltPolarity => 0x57
  | .ltPixelFormat => 0x58
  | .ltDefaultColor => 0x59
  | .ltConstAlpha => 0x5A
  | .ltBlend => 0x5B
  | .ltColorKey => 0x5C
  | .ltLineConfig => 0x5D
  | .ltFbAddr => 0x5E
  | .ltLayerEnable => 0x5F
  | .ltDitherEnable => 0x60
  | .ltEnable => 0x61
  | .ltSetup => 0x62
  | .ltRgb565To888 => 0x63
  | .csEnter => 0x70
  | .csExit => 0x71
  | .rccFmcEnable => 0x72
  | .rccFmcResetPulse => 0x73
  | .clkFreq => 0x74

/-- The rows of the opcode map, in its order (R105). -/
def Opcode.all : List Opcode :=
  [.ccNow, .ccElapsed, .ccEnable, .durToTicks,
    .dlyTicks, .dlyUs, .dlyMs, .dlySF32, .dlySF64, .dlyDuration,
    .swNew, .swLap, .swLapTime, .swReset, .swIterNext,
    .tcNanosToCycles, .tcRefreshCounter, .tcConvertSpec,
    .sdBringup, .sdSendCmd, .sdWaitReady, .sdModeWord,
    .ltSetTiming, .ltWindow, .ltWindowXywh, .ltReload, .ltReady, .ltWaitReady, .ltBgcolor, .ltPolarity,
    .ltPixelFormat, .ltDefaultColor, .ltConstAlpha, .ltBlend, .ltColorKey, .ltLineConfig, .ltFbAddr, .ltLayerEnable,
    .ltDitherEnable, .ltEnable, .ltSetup, .ltRgb565To888,
    .csEnter, .csExit, .rccFmcEnable, .rccFmcResetPulse, .clkFreq]

/-- The operation of an opcode byte, none for a reserved one (R105, R106). -/
def opcodeOf (b : Byte) : Option Opcode := Opcode.all.find? fun o => o.code == b

/-! ### Bytes of an operand, least significant first (R82; log 4) -/

def put16 (v : BitVec 16) : List Byte := [v.extractLsb' 0 8, v.extractLsb' 8 8]
def put32 (v : Word) : List Byte := [v.extractLsb' 0 8, v.extractLsb' 8 8, v.extractLsb' 16 8, v.extractLsb' 24 8]
def put64 (v : DWord) : List Byte := put32 (v.extractLsb' 0 32) ++ put32 (v.extractLsb' 32 32)

def get8 : List Byte → Option (Byte × List Byte)
  | b :: r => some (b, r)
  | [] => none

def get16 : List Byte → Option (BitVec 16 × List Byte)
  | b0 :: b1 :: r => some (b1 ++ b0, r)
  | _ => none

def get32 : List Byte → Option (Word × List Byte)
  | b0 :: b1 :: b2 :: b3 :: r => some (b3 ++ b2 ++ b1 ++ b0, r)
  | _ => none

def get64 (bs : List Byte) : Option (DWord × List Byte) := do
  let (lo, r) ← get32 bs
  let (hi, r) ← get32 r
  return (hi ++ lo, r)

/-! ### Operand records (R101 to R104; log 4) -/

/-- A present flag byte (0 or 1), then the frequency if it is 1; the flag gives the number of bytes (DEDUCED, log 4). -/
def getFreq (bs : List Byte) : Option (Option Word × List Byte) := do
  let (flag, r) ← get8 bs
  if flag = 0 then return (none, r)
  else if flag = 1 then
    let (f, r) ← get32 r
    return (some f, r)
  else none

/-- `Duration`: the tag byte (R102), the payload in its own width, then the optional frequency. That R100's length is the
record's type, and the number of bytes the tag's and the presence byte's, is the model's reading (DEDUCED, log 4). -/
def getDuration (bs : List Byte) : Option (Duration × List Byte) := do
  let (tag, r) ← get8 bs
  if tag = 0 then
    let (t, r) ← get64 r
    let (f, r) ← getFreq r
    return (⟨.ticks t, f⟩, r)
  else if tag = 1 then
    let (n, r) ← get64 r
    let (f, r) ← getFreq r
    return (⟨.nanos n, f⟩, r)
  else if tag = 2 then
    let (s, r) ← get32 r
    let (f, r) ← getFreq r
    return (⟨.secs32 s, f⟩, r)
  else if tag = 3 then
    let (s, r) ← get64 r
    let (f, r) ← getFreq r
    return (⟨.secs64 s, f⟩, r)
  else none

def getTimingNs (bs : List Byte) : Option (TimingNs × List Byte) := do
  let (rcd, r) ← get32 bs
  let (rp, r) ← get32 r
  let (wr, r) ← get32 r
  let (rc, r) ← get32 r
  let (ras, r) ← get32 r
  let (xsr, r) ← get32 r
  let (mrd, r) ← get32 r
  let (refresh, r) ← get32 r
  return (⟨rcd, rp, wr, rc, ras, xsr, mrd, refresh⟩, r)

def getTimingSpecNs (bs : List Byte) : Option (TimingSpecNs × List Byte) := do
  let (ns, r) ← getTimingNs bs
  let (rowBits, r) ← get32 r
  let (div, r) ← get32 r
  return (⟨ns, rowBits, div⟩, r)

def getGeometry (bs : List Byte) : Option (Geometry × List Byte) := do
  let (col, r) ← get32 bs
  let (row, r) ← get32 r
  let (width, r) ← get32 r
  let (banks, r) ← get32 r
  let (cas, r) ← get32 r
  let (wp, r) ← get8 r
  let (div, r) ← get32 r
  let (burst, r) ← get8 r
  let (pipe, r) ← get32 r
  return (⟨col, row, width, banks, cas, wp, div, burst, pipe⟩, r)

def getModeConfig (bs : List Byte) : Option (ModeConfig × List Byte) := do
  let (bl, r) ← get32 bs
  let (bt, r) ← get8 r
  let (op, r) ← get8 r
  let (wb, r) ← get8 r
  return (⟨bl, bt, op, wb⟩, r)

/-- A `ModeParams` record: R244's fields in the order in which R244 lists them, `cas_latency` third (DESIGN CHOICE, log 4: no
rule gives the order of a record's bytes). -/
def getModeParams (bs : List Byte) : Option (ModeParams × List Byte) := do
  let (bl, r) ← get32 bs
  let (bt, r) ← get8 r
  let (cas, r) ← get32 r
  let (op, r) ← get8 r
  let (wb, r) ← get8 r
  return (⟨⟨bl, bt, op, wb⟩, cas⟩, r)

def getSdramConfig (bs : List Byte) : Option (SdramConfig × List Byte) := do
  let (g, r) ← getGeometry bs
  let (t, r) ← getTimingNs r
  let (m, r) ← getModeConfig r
  return (⟨g, t, m⟩, r)

def getDisplayTiming (bs : List Byte) : Option (DisplayTimingSpec × List Byte) := do
  let (hs, r) ← get16 bs
  let (hb, r) ← get16 r
  let (ha, r) ← get16 r
  let (hf, r) ← get16 r
  let (vs, r) ← get16 r
  let (vb, r) ← get16 r
  let (va, r) ← get16 r
  let (vf, r) ← get16 r
  return (⟨hs, hb, ha, hf, vs, vb, va, vf⟩, r)

/-- A present flag byte (0 or 1), then the colour key if it is 1; the flag gives the number of bytes (DEDUCED, log 4). -/
def getColorKey (bs : List Byte) : Option (Option ColorKey × List Byte) := do
  let (flag, r) ← get8 bs
  if flag = 0 then return (none, r)
  else if flag = 1 then
    let (fmt, r) ← get8 r
    let (key, r) ← get32 r
    return (some ⟨fmt, key⟩, r)
  else none

def getLayerConfig (bs : List Byte) : Option (LayerConfig × List Byte) := do
  let (layer, r) ← get8 bs
  let (pf, r) ← get8 r
  let (color, r) ← get32 r
  let (alpha, r) ← get8 r
  let (bf1, r) ← get8 r
  let (bf2, r) ← get8 r
  let (key, r) ← getColorKey r
  let (x, r) ← get16 r
  let (y, r) ← get16 r
  let (w, r) ← get16 r
  let (h, r) ← get16 r
  let (fb, r) ← getFreq r
  return (⟨layer, pf, color, alpha, bf1, bf2, key, x, y, w, h, fb⟩, r)

/-- As many layer records as the count byte says, each of the length its own presence bytes give (DEDUCED, log 4). -/
def getLayers : Nat → List Byte → Option (List LayerConfig × List Byte)
  | 0, bs => some ([], bs)
  | k + 1, bs => do
    let (l, r) ← getLayerConfig bs
    let (ls, r) ← getLayers k r
    return (l :: ls, r)

/-- `LtdcConfig`: the list of layers as a count byte and that many layer records. -/
def getLtdcConfig (bs : List Byte) : Option (LtdcConfig × List Byte) := do
  let (bg, r) ← get32 bs
  let (hs, r) ← get8 r
  let (vs, r) ← get8 r
  let (de, r) ← get8 r
  let (pc, r) ← get8 r
  let (t, r) ← getDisplayTiming r
  let (n, r) ← get8 r
  let (ls, r) ← getLayers n.toNat r
  return (⟨bg, hs, vs, de, pc, t, ls⟩, r)

/-- The operand record that R105 gives an opcode. The opcode alone gives the record's type (R100); where the type has a tag, an
option or a list, the bytes of these give its length in bytes (DEDUCED, log 4). -/
def decodeRecord (o : Opcode) (bs : List Byte) : Option (Instr × List Byte) :=
  match o with
  | .ccNow => some (.ccNow, bs)
  | .ccElapsed => do
    let (a, r) ← get32 bs
    return (.ccElapsed a, r)
  | .ccEnable => some (.ccEnable, bs)
  | .durToTicks => do
    let (d, r) ← getDuration bs
    return (.durToTicks d, r)
  | .dlyTicks => do
    let (t, r) ← get64 bs
    return (.dlyTicks t, r)
  | .dlyUs => do
    let (n, r) ← get32 bs
    return (.dlyUs n, r)
  | .dlyMs => do
    let (n, r) ← get32 bs
    return (.dlyMs n, r)
  | .dlySF32 => do
    let (s, r) ← get32 bs
    return (.dlySF32 s, r)
  | .dlySF64 => do
    let (s, r) ← get64 bs
    return (.dlySF64 s, r)
  | .dlyDuration => do
    let (d, r) ← getDuration bs
    return (.dlyDuration d, r)
  | .swNew => do
    let (h, r) ← get32 bs
    let (c, r) ← get32 r
    let (f, r) ← get32 r
    return (.swNew h c f, r)
  | .swLap => do
    let (h, r) ← get32 bs
    return (.swLap h, r)
  | .swLapTime => do
    let (h, r) ← get32 bs
    let (n, r) ← get32 r
    return (.swLapTime h n, r)
  | .swReset => do
    let (h, r) ← get32 bs
    return (.swReset h, r)
  | .swIterNext => do
    let (h, r) ← get32 bs
    return (.swIterNext h, r)
  | .tcNanosToCycles => do
    let (a, r) ← get32 bs
    let (b, r) ← get32 r
    let (c, r) ← get32 r
    let (d, r) ← get32 r
    let (e, r) ← get32 r
    return (.tcNanosToCycles a b c d e, r)
  | .tcRefreshCounter => do
    let (a, r) ← get32 bs
    let (b, r) ← get32 r
    let (c, r) ← get32 r
    let (d, r) ← get32 r
    return (.tcRefreshCounter a b c d, r)
  | .tcConvertSpec => do
    let (t, r) ← getTimingSpecNs bs
    let (f, r) ← get32 r
    let (d, r) ← get32 r
    return (.tcConvertSpec t f d, r)
  | .sdBringup => do
    let (b, r) ← get8 bs
    let (c, r) ← getSdramConfig r
    return (.sdBringup b c, r)
  | .sdSendCmd => do
    let (b, r) ← get8 bs
    let (m, r) ← get8 r
    let (n, r) ← get8 r
    let (d, r) ← get16 r
    return (.sdSendCmd b m n d, r)
  | .sdWaitReady => some (.sdWaitReady, bs)
  | .sdModeWord => do
    let (mp, r) ← getModeParams bs
    return (.sdModeWord mp, r)
  | .ltSetTiming => do
    let (t, r) ← getDisplayTiming bs
    return (.ltSetTiming t, r)
  | .ltWindow => do
    let (l, r) ← get8 bs
    let (a, r) ← get16 r
    let (b, r) ← get16 r
    let (c, r) ← get16 r
    let (d, r) ← get16 r
    return (.ltWindow l a b c d, r)
  | .ltWindowXywh => do
    let (l, r) ← get8 bs
    let (a, r) ← get16 r
    let (b, r) ← get16 r
    let (c, r) ← get16 r
    let (d, r) ← get16 r
    return (.ltWindowXywh l a b c d, r)
  | .ltReload => do
    let (m, r) ← get8 bs
    return (.ltReload m, r)
  | .ltReady => some (.ltReady, bs)
  | .ltWaitReady => some (.ltWaitReady, bs)
  | .ltBgcolor => do
    let (c, r) ← get32 bs
    return (.ltBgcolor c, r)
  | .ltPolarity => do
    let (a, r) ← get8 bs
    let (b, r) ← get8 r
    let (c, r) ← get8 r
    let (d, r) ← get8 r
    return (.ltPolarity a b c d, r)
  | .ltPixelFormat => do
    let (l, r) ← get8 bs
    let (p, r) ← get8 r
    return (.ltPixelFormat l p, r)
  | .ltDefaultColor => do
    let (l, r) ← get8 bs
    let (c, r) ← get32 r
    return (.ltDefaultColor l c, r)
  | .ltConstAlpha => do
    let (l, r) ← get8 bs
    let (a, r) ← get8 r
    return (.ltConstAlpha l a, r)
  | .ltBlend => do
    let (l, r) ← get8 bs
    let (a, r) ← get8 r
    let (b, r) ← get8 r
    return (.ltBlend l a b, r)
  | .ltColorKey => do
    let (l, r) ← get8 bs
    let (f, r) ← get8 r
    let (k, r) ← get32 r
    return (.ltColorKey l f k, r)
  | .ltLineConfig => do
    let (l, r) ← get8 bs
    let (w, r) ← get16 r
    let (b, r) ← get8 r
    let (n, r) ← get16 r
    return (.ltLineConfig l w b n, r)
  | .ltFbAddr => do
    let (l, r) ← get8 bs
    let (a, r) ← get32 r
    return (.ltFbAddr l a, r)
  | .ltLayerEnable => do
    let (l, r) ← get8 bs
    return (.ltLayerEnable l, r)
  | .ltDitherEnable => some (.ltDitherEnable, bs)
  | .ltEnable => some (.ltEnable, bs)
  | .ltSetup => do
    let (c, r) ← getLtdcConfig bs
    return (.ltSetup c, r)
  | .ltRgb565To888 => do
    let (c, r) ← get16 bs
    return (.ltRgb565To888 c, r)
  | .csEnter => some (.csEnter, bs)
  | .csExit => some (.csExit, bs)
  | .rccFmcEnable => some (.rccFmcEnable, bs)
  | .rccFmcResetPulse => some (.rccFmcResetPulse, bs)
  | .clkFreq => some (.clkFreq, bs)

/-- Read one OP8 operation from the front of `bs`: the opcode byte, then the record R105 names for it (R108). -/
def decode (bs : List Byte) : Except DecodeError (Instr × List Byte) :=
  match bs with
  | [] => .error .malformedRecord
  | b :: r =>
    match opcodeOf b with
    | none => .error .reservedOpcode
    | some o =>
      match decodeRecord o r with
      | none => .error .malformedRecord
      | some x => .ok x

/-! ### Command words, format SDCMR (R112, R113) -/

/-- `CMDWORD` (R112). -/
def cmdWord (mode : BitVec 3) (ctb1 ctb2 : Bool) (nrfs : BitVec 4) (mrd : BitVec 13) : Word :=
  mode.setWidth 32 ||| ((BitVec.ofBool ctb2).setWidth 32 <<< 3) ||| ((BitVec.ofBool ctb1).setWidth 32 <<< 4) |||
    (nrfs.setWidth 32 <<< 5) ||| (mrd.setWidth 32 <<< 9)

/-- Read a command word: none for a MODE the block does not issue (R113), or with a bit set in [31:22] (R112). -/
def decodeCommand (w : Word) : Option Instr :=
  let mode := w.extractLsb' 0 3
  let ctb2 := w.getLsbD 3
  let ctb1 := w.getLsbD 4
  let nrfs := w.extractLsb' 5 4
  let mrd := w.extractLsb' 9 13
  if w.extractLsb' 22 10 != 0 then none
  else if mode = 1 then some (.sdcmdClk ctb2 ctb1 nrfs mrd)
  else if mode = 2 then some (.sdcmdPall ctb2 ctb1 nrfs mrd)
  else if mode = 3 then some (.sdcmdAref ctb2 ctb1 nrfs mrd)
  else if mode = 4 then some (.sdcmdLmr ctb2 ctb1 nrfs mrd)
  else none

/-! ### The host's window on the decoder -/

/-- The two formats of the opcode table. A row of format SDCMR is a 32-bit word whose fields end at bit 21; in one byte
its fixed bits are also an OP8 opcode, so a single byte is read as OP8 (log 6). -/
def isCommandFormat (nbits : Nat) : Bool := nbits != 8

/-- The bytes of `w`, least significant first, with zeros above, as long as the longest record of fixed length. -/
def tableBytes (w : Nat) : List Byte := (List.range 128).map fun k => BitVec.ofNat 8 (w >>> (8 * k))

/-- The instruction the decoder reads from a table row's bits: one byte is an OP8 opcode with a record of zeros,
anything else a command word (log 6). -/
def decodeTableWord (nbits w : Nat) : Option Instr :=
  if isCommandFormat nbits then decodeCommand (BitVec.ofNat 32 w)
  else
    match decode (tableBytes w) with
    | .ok (i, _) => some i
    | .error _ => none

/-! ### The encoder -/

def putFreq : Option Word → List Byte
  | none => [0]
  | some f => 1 :: put32 f

def putDuration (d : Duration) : List Byte :=
  match d.form with
  | .ticks t => 0 :: put64 t ++ putFreq d.freq
  | .nanos n => 1 :: put64 n ++ putFreq d.freq
  | .secs32 s => 2 :: put32 s ++ putFreq d.freq
  | .secs64 s => 3 :: put64 s ++ putFreq d.freq

def putTimingNs (t : TimingNs) : List Byte :=
  put32 t.rcd ++ put32 t.rp ++ put32 t.wr ++ put32 t.rc ++ put32 t.ras ++ put32 t.xsr ++ put32 t.mrd ++
    put32 t.refreshPeriod

def putTimingSpecNs (t : TimingSpecNs) : List Byte := putTimingNs t.ns ++ put32 t.rowBits ++ put32 t.sdclkDiv

def putGeometry (g : Geometry) : List Byte :=
  put32 g.colBits ++ put32 g.rowBits ++ put32 g.dataWidth ++ put32 g.internalBanks ++ put32 g.casLatency ++
    [g.writeProtect] ++ put32 g.sdclkDiv ++ [g.readBurst] ++ put32 g.readPipe

def putModeConfig (m : ModeConfig) : List Byte := put32 m.burstLength ++ [m.burstType, m.opMode, m.writeBurst]

/-- A `ModeParams` record as `getModeParams` reads it (log 4). -/
def putModeParams (m : ModeParams) : List Byte :=
  put32 m.mode.burstLength ++ [m.mode.burstType] ++ put32 m.casLatency ++ [m.mode.opMode, m.mode.writeBurst]

def putSdramConfig (c : SdramConfig) : List Byte := putGeometry c.geometry ++ putTimingNs c.timing ++ putModeConfig c.mode

def putDisplayTiming (t : DisplayTimingSpec) : List Byte :=
  put16 t.hSync ++ put16 t.hBackPorch ++ put16 t.hActive ++ put16 t.hFrontPorch ++ put16 t.vSync ++
    put16 t.vBackPorch ++ put16 t.vActive ++ put16 t.vFrontPorch

def putColorKey : Option ColorKey → List Byte
  | none => [0]
  | some k => 1 :: k.fmt :: put32 k.key

def putLayerConfig (l : LayerConfig) : List Byte :=
  [l.layer, l.pf] ++ put32 l.defaultColor ++ [l.constAlpha, l.bf1, l.bf2] ++ putColorKey l.colorKey ++
    put16 l.x ++ put16 l.y ++ put16 l.w ++ put16 l.h ++ putFreq l.fbAddr

def putLtdcConfig (c : LtdcConfig) : List Byte :=
  put32 c.bg ++ [c.hs, c.vs, c.de, c.pc] ++ putDisplayTiming c.timing ++ [BitVec.ofNat 8 c.layers.length] ++
    c.layers.flatMap putLayerConfig

/-- The command word of a row of format SDCMR, none for an operation (R112, R113). -/
def commandOf : Instr → Option Word
  | .sdcmdClk b2 b1 n m => some (cmdWord 1 b1 b2 n m)
  | .sdcmdPall b2 b1 n m => some (cmdWord 2 b1 b2 n m)
  | .sdcmdAref b2 b1 n m => some (cmdWord 3 b1 b2 n m)
  | .sdcmdLmr b2 b1 n m => some (cmdWord 4 b1 b2 n m)
  | _ => none

/-- The bytes of an instruction: the opcode and its operand record (R100, R105), or the four bytes of a command word,
least significant first (R112, R82). -/
def encode : Instr → List Byte
  | .ccNow => [0x01]
  | .ccElapsed a => 0x02 :: put32 a
  | .ccEnable => [0x03]
  | .durToTicks d => 0x04 :: putDuration d
  | .dlyTicks t => 0x10 :: put64 t
  | .dlyUs n => 0x11 :: put32 n
  | .dlyMs n => 0x12 :: put32 n
  | .dlySF32 s => 0x13 :: put32 s
  | .dlySF64 s => 0x14 :: put64 s
  | .dlyDuration d => 0x15 :: putDuration d
  | .swNew h c f => 0x20 :: (put32 h ++ put32 c ++ put32 f)
  | .swLap h => 0x21 :: put32 h
  | .swLapTime h n => 0x22 :: (put32 h ++ put32 n)
  | .swReset h => 0x23 :: put32 h
  | .swIterNext h => 0x24 :: put32 h
  | .tcNanosToCycles a b c d e => 0x30 :: (put32 a ++ put32 b ++ put32 c ++ put32 d ++ put32 e)
  | .tcRefreshCounter a b c d => 0x31 :: (put32 a ++ put32 b ++ put32 c ++ put32 d)
  | .tcConvertSpec t f d => 0x32 :: (putTimingSpecNs t ++ put32 f ++ put32 d)
  | .sdBringup b c => 0x40 :: b :: putSdramConfig c
  | .sdSendCmd b m n d => 0x41 :: b :: m :: n :: put16 d
  | .sdWaitReady => [0x42]
  | .sdModeWord mp => 0x43 :: putModeParams mp
  | .ltSetTiming t => 0x50 :: putDisplayTiming t
  | .ltWindow l a b c d => 0x51 :: l :: (put16 a ++ put16 b ++ put16 c ++ put16 d)
  | .ltWindowXywh l a b c d => 0x52 :: l :: (put16 a ++ put16 b ++ put16 c ++ put16 d)
  | .ltReload m => [0x53, m]
  | .ltReady => [0x54]
  | .ltWaitReady => [0x55]
  | .ltBgcolor c => 0x56 :: put32 c
  | .ltPolarity a b c d => [0x57, a, b, c, d]
  | .ltPixelFormat l p => [0x58, l, p]
  | .ltDefaultColor l c => 0x59 :: l :: put32 c
  | .ltConstAlpha l a => [0x5A, l, a]
  | .ltBlend l a b => [0x5B, l, a, b]
  | .ltColorKey l f k => 0x5C :: l :: f :: put32 k
  | .ltLineConfig l w b n => 0x5D :: l :: (put16 w ++ [b] ++ put16 n)
  | .ltFbAddr l a => 0x5E :: l :: put32 a
  | .ltLayerEnable l => [0x5F, l]
  | .ltDitherEnable => [0x60]
  | .ltEnable => [0x61]
  | .ltSetup c => 0x62 :: putLtdcConfig c
  | .ltRgb565To888 c => 0x63 :: put16 c
  | .csEnter => [0x70]
  | .csExit => [0x71]
  | .rccFmcEnable => [0x72]
  | .rccFmcResetPulse => [0x73]
  | .clkFreq => [0x74]
  | .sdcmdClk b2 b1 n m => put32 (cmdWord 1 b1 b2 n m)
  | .sdcmdPall b2 b1 n m => put32 (cmdWord 2 b1 b2 n m)
  | .sdcmdAref b2 b1 n m => put32 (cmdWord 3 b1 b2 n m)
  | .sdcmdLmr b2 b1 n m => put32 (cmdWord 4 b1 b2 n m)

/-- What the record layout can hold: an operation of format OP8 whose list of layers, if it has one, fits the count
byte. -/
def encodable : Instr → Bool
  | .ltSetup c => decide (c.layers.length < 256)
  | i => (commandOf i).isNone

end Sys2Proof
end

