-- ==== Sys2Proof/Machine/Operands.lean ====
section
/-! DEFINITION. What the operand records mean: the legal sets of 30_encoding.md R101 and of the operations' rules, the
typed values behind the codes, and the register words computed from them. Pure functions of the operands and the
parameters. -/

namespace Sys2Proof.Machine

/-! ### Legal sets -/

/-- `Hz`: a u32 of at least 1 (R101). -/
def hzOk (f : Word) : Bool := f != 0
/-- `Bank`: 0, 1 or 2 (R103). -/
def bankOk (b : Byte) : Bool := decide (b.toNat < 3)
/-- `Bool`: 0 or 1 (R101). -/
def boolOk (b : Byte) : Bool := decide (b.toNat < 2)
/-- `ReloadMode`: 0 or 1 (R104). -/
def reloadModeOk (b : Byte) : Bool := decide (b.toNat < 2)
/-- `Layer`: 1 to `NUM_LAYERS` (R101). -/
def layerOk (n : Nat) (l : Byte) : Bool := decide (1 ≤ l.toNat) && decide (l.toNat ≤ n)
/-- u3 (R101). -/
def u3Ok (b : Byte) : Bool := decide (b.toNat < 8)
/-- u4 (R101). -/
def u4Ok (b : Byte) : Bool := decide (b.toNat < 16)
/-- u13 (R101). -/
def u13Ok (v : BitVec 16) : Bool := decide (v.toNat < 8192)
/-- u24 (R101). -/
def u24Ok (v : Word) : Bool := decide (v.toNat < 16777216)

/-- A present frequency is at least 1 (40_cycle_clock.md R146). -/
def durationOk (d : Duration) : Bool :=
  match d.freq with
  | none => true
  | some f => hzOk f

/-- The code of a legal geometry value, none for any other (44_sdram_sequencer.md R229, 30_encoding.md R116). -/
def fieldCode {k : Nat} : List (Nat × BitVec k) → Nat → Option (BitVec k)
  | [], _ => none
  | (v, c) :: rest, x => if v = x then some c else fieldCode rest x

/-- `row_bits` and `sdclk_div` are in their legal sets (43_timing_calc.md R200). -/
def timingSpecOk (fv : SdramFieldValues) (t : TimingSpecNs) : Bool :=
  (fieldCode fv.rowBits t.rowBits.toNat).isSome && (fieldCode fv.sdclkDiv t.sdclkDiv.toNat).isSome

/-- The mode-register parameters other than the CAS latency are in their legal sets (44_sdram_sequencer.md R244,
30_encoding.md R114): burst length 1, 2, 4 or 8; type and write burst 0 or 1; operating mode 0 = Standard. -/
def modeConfigOk (m : ModeConfig) : Bool :=
  (m.burstLength == 1 || m.burstLength == 2 || m.burstLength == 4 || m.burstLength == 8) &&
    boolOk m.burstType && m.opMode == 0 && boolOk m.writeBurst

/-- The CAS latencies the mode register takes (R114, R244). -/
def casOk (c : Word) : Bool := c == 1 || c == 2 || c == 3

/-- The parts of a `LayerConfig` are of their types (45_ltdc.md R300). -/
def layerConfigOk (n : Nat) (l : LayerConfig) : Bool :=
  layerOk n l.layer && u3Ok l.pf && u3Ok l.bf1 && u3Ok l.bf2 &&
    (match l.colorKey with
    | none => true
    | some k => boolOk k.fmt && u24Ok k.key)

/-- No two entries name the same layer (R300, R301). -/
def distinctLayers : List LayerConfig → Bool
  | [] => true
  | l :: rest => rest.all (fun m => m.layer != l.layer) && distinctLayers rest

/-- An `LtdcConfig` is of its type: the list has 1 to `NUM_LAYERS` entries with distinct layers (R300, R301). -/
def ltdcConfigOk (n : Nat) (c : LtdcConfig) : Bool :=
  u24Ok c.bg && boolOk c.hs && boolOk c.vs && boolOk c.de && boolOk c.pc &&
    !c.layers.isEmpty && decide (c.layers.length ≤ n) && c.layers.all (layerConfigOk n) && distinctLayers c.layers

/-! ### Typed values behind the codes -/

/-- `Bank` of its code (R103). -/
def bankOf (b : Byte) : Option Bank :=
  if b = 0 then some .bankA else if b = 1 then some .bankB else if b = 2 then some .bothBanks else none

/-- Bank 1 is selected (R17, R115). -/
def Bank.ctb1 : Bank → Bool
  | .bankA => true
  | .bankB => false
  | .bothBanks => true

/-- Bank 2 is selected (R17, R115). -/
def Bank.ctb2 : Bank → Bool
  | .bankA => false
  | .bankB => true
  | .bothBanks => true

/-- `ReloadMode` of its code (R104). -/
def reloadModeOf (b : Byte) : Option ReloadMode :=
  if b = 0 then some .immediate else if b = 1 then some .verticalBlank else none

/-- Bytes per pixel of an LTDC pixel format (R117, 45_ltdc.md R303). -/
def bytesPerPixel (pf : Byte) : Nat :=
  if pf = 0 then 4 else if pf = 1 then 3 else if pf = 2 then 2 else if pf = 3 then 2
  else if pf = 4 then 2 else if pf = 5 then 1 else if pf = 6 then 1 else 2

/-- A Bool operand: 0 is false, any other byte true; only 0 and 1 are legal (R101). -/
def boolOf (b : Byte) : Bool := b != 0

/-! ### SDRAM control registers (10_state.md R41, 30_encoding.md R116) -/

/-- The bits of `BANK1_ONLY_CTRL` (R228, R230). -/
def ctrlMask (m : FieldMap) (fs : List CtrlField) : Word := fieldsMask (fs.map m.sdcr.field)

/-- The control word with every field of the geometry, none if a value is outside its legal set (R116, R229). -/
def sdcrWord (m : FieldMap) (fv : SdramFieldValues) (g : Geometry) : Option Word := do
  let nc ← fieldCode fv.colBits g.colBits.toNat
  let nr ← fieldCode fv.rowBits g.rowBits.toNat
  let mwid ← fieldCode fv.dataWidth g.dataWidth.toNat
  let nb ← fieldCode fv.internalBanks g.internalBanks.toNat
  let cas ← fieldCode fv.casLatency g.casLatency.toNat
  let div ← fieldCode fv.sdclkDiv g.sdclkDiv.toNat
  let pipe ← fieldCode fv.readPipe g.readPipe.toNat
  return m.sdcr.nc.put nc.toNat ||| m.sdcr.nr.put nr.toNat ||| m.sdcr.mwid.put mwid.toNat ||| m.sdcr.nb.put nb.toNat |||
    m.sdcr.cas.put cas.toNat ||| m.sdcr.wp.putBit (boolOf g.writeProtect) ||| m.sdcr.sdclk.put div.toNat |||
    m.sdcr.rburst.putBit (boolOf g.readBurst) ||| m.sdcr.rpipe.put pipe.toNat

/-! ### SDRAM timing registers (10_state.md R42, R44) -/

/-- The bits of `BANK1_ONLY_TIMING` (R231, R232). -/
def timMask (m : FieldMap) (fs : List TimField) : Word := fieldsMask (fs.map m.sdtr.field)

/-- The timing word with all seven fields (R231). -/
def sdtrWord (m : FieldMap) (c : TimingSpecCycles) : Word :=
  m.sdtr.tmrd.put c.mrd ||| m.sdtr.txsr.put c.xsr ||| m.sdtr.tras.put c.ras ||| m.sdtr.trc.put c.rc |||
    m.sdtr.twr.put c.wr ||| m.sdtr.trp.put c.rp ||| m.sdtr.trcd.put c.rcd

/-- The refresh-timer word: COUNT, with CRE = 0 and REIE = 0 (R44, R240). -/
def sdrtrWord (m : FieldMap) (refresh : BitVec 16) : Word := m.sdrtr.count.put refresh.toNat

/-! ### The mode-register word (30_encoding.md R111, R114) -/

/-- The burst-length code (R114). -/
def burstCode (b : Word) : BitVec 13 := if b = 1 then 0 else if b = 2 then 1 else if b = 4 then 2 else 3

/-- The mode-register word of R111 with the codes of R114, none if a value is outside its legal set (R244). -/
def modeWord (p : Params) (mp : ModeParams) : Option (BitVec 13) :=
  if modeConfigOk mp.mode && casOk mp.casLatency then
    some (burstCode mp.mode.burstLength ||| ((BitVec.ofBool (boolOf mp.mode.burstType)).setWidth 13 <<< 3) |||
      (mp.casLatency.setWidth 13 <<< 4) ||| (p.mrOpmodeStandard.setWidth 13 <<< 7) |||
      ((BitVec.ofBool (boolOf mp.mode.writeBurst)).setWidth 13 <<< 9))
  else none

/-! ### LTDC words (10_state.md R50, R53; 30_encoding.md R120) -/

/-- The four boundaries of one axis (45_ltdc.md R271), with a sync of at least 1. -/
structure Bounds where
  sw : Nat
  bp : Nat
  aw : Nat
  tot : Nat
  deriving DecidableEq, Repr

/-- The boundary values of R271: running sums, the first biased by −1. -/
def bounds (sync backPorch active frontPorch : Nat) : Bounds :=
  let sw := sync - 1
  let bp := sw + backPorch
  let aw := bp + active
  ⟨sw, bp, aw, aw + frontPorch⟩

/-- Horizontal boundaries of a `DisplayTimingSpec` (R271). -/
def hBounds (t : DisplayTimingSpec) : Bounds :=
  bounds t.hSync.toNat t.hBackPorch.toNat t.hActive.toNat t.hFrontPorch.toNat

/-- Vertical boundaries of a `DisplayTimingSpec` (R271). -/
def vBounds (t : DisplayTimingSpec) : Bounds :=
  bounds t.vSync.toNat t.vBackPorch.toNat t.vActive.toNat t.vFrontPorch.toNat

/-- A sync width of 0 has no register value (R271). -/
def timingSyncOk (t : DisplayTimingSpec) : Bool := t.hSync != 0 && t.vSync != 0

/-- Every boundary fits its field: the last of each axis is the largest (R271). -/
def timingFits (p : Params) (t : DisplayTimingSpec) : Bool :=
  decide ((hBounds t).tot < 2 ^ p.hFieldBits) && decide ((vBounds t).tot < 2 ^ p.vFieldBits)

/-- The check of R271. -/
def timingRefusal (p : Params) (t : DisplayTimingSpec) : Option Refusal :=
  if !timingSyncOk t then some .badOperand
  else if !timingFits p t then some .fieldOverflow
  else none

/-- The checks of LT_WINDOW (R274). -/
def windowRefusal (p : Params) (hStart hStop vStart vStop : Nat) : Option Refusal :=
  if hStart > hStop ∨ vStart > vStop then some .badOperand
  else if hStop ≥ 2 ^ p.hFieldBits ∨ vStop ≥ 2 ^ p.vFieldBits then some .fieldOverflow
  else none

/-- The blend factors are codes R118 gives (R281). -/
def blendOk (bf1 bf2 : Byte) : Bool := (bf1 == 4 || bf1 == 6) && (bf2 == 5 || bf2 == 7)

/-- The blend word (R281). -/
def blendWord (m : FieldMap) (bf1 bf2 : Byte) : Word := m.layer.bf1.put bf1.toNat ||| m.layer.bf2.put bf2.toNat

/-- An RGB565 key has at most 16 bits (R282). -/
def colorKeyOk (fmt : Byte) (key : Word) : Bool := !boolOf fmt || decide (key.toNat < 65536)

/-- One channel of `RGB565_EXPAND` (R285): `max` is 31 or 63. -/
def expandChannel (e : RgbExpand) (v max : Nat) : Nat :=
  match e with
  | .normalize => v * 255 / max
  | .table five six => ((if max = 31 then five else six).getD v 0).toNat

/-- `RGB565_TO_888` (R285, layouts R119). -/
def rgb565To888 (p : Params) (c : BitVec 16) : BitVec 24 :=
  let r8 := expandChannel p.rgb565Expand (c.extractLsb' 11 5).toNat 31
  let g8 := expandChannel p.rgb565Expand (c.extractLsb' 5 6).toNat 63
  let b8 := expandChannel p.rgb565Expand (c.extractLsb' 0 5).toNat 31
  (BitVec.ofNat 24 r8 <<< 16) ||| (BitVec.ofNat 24 g8 <<< 8) ||| BitVec.ofNat 24 b8

/-- The colour key at RGB888 precision (R282). -/
def colorKey888 (p : Params) (fmt : Byte) (key : Word) : Word :=
  if boolOf fmt then (rgb565To888 p (key.setWidth 16)).setWidth 32 else key

/-- The line length in bytes (R283). -/
def lineBytes (widthPx bytesPp : Nat) : Nat := widthPx * bytesPp

/-- The pitch: the next multiple of `PITCH_ALIGN` at or above the line length (R283). -/
def linePitch (len : Nat) : Nat := (len + Config.pitchAlign - 1) / Config.pitchAlign * Config.pitchAlign

/-- The operand check of LT_LINE_CONFIG (R283). -/
def lineOk (widthPx bytesPp : Nat) : Bool := widthPx != 0 && decide (1 ≤ bytesPp) && decide (bytesPp ≤ 4)

/-- The values of LT_LINE_CONFIG fit their fields (R283): 13 bits for CFBLL and CFBP and 11 for CFBLNBR in the default map
(log 33). -/
def lineFits (p : Params) (widthPx bytesPp lines : Nat) : Bool :=
  let len := lineBytes widthPx bytesPp
  decide (len + p.cfbllBias < 2 ^ p.regMap.fields.layer.cfbll.width) &&
    decide (linePitch len < 2 ^ p.regMap.fields.layer.cfbp.width) &&
    decide (lines < 2 ^ p.regMap.fields.layer.cfblnbr.width)

end Sys2Proof.Machine
end

