-- ==== Sys2Proof/Machine/Ops.lean ====
section
/-! DEFINITION. The named operations over State: the two marks (the block's shared form of taking a fault or a refusal:
60_exceptions.md R340, R341, R343), the critical section, register reads and writes (20_memory.md R84, R85), the byte
memory behind the SDRAM windows, and the host step (00_scope.md R10, R11). -/

namespace Sys2Proof.Machine

/-! ### Marks (R34, R343, R346) -/

/-- A step with outcome `fault(r)`: it records `r`, if no fault is recorded, and nothing else (R34, R340). -/
def State.raiseFault (s : State) (r : Fault) : State :=
  { s with faulted := match s.faulted with | none => some r | some r' => some r' }

/-- A step with outcome `refuse(r)`: it records `r`, if no refusal is recorded, and nothing else (R34, R341). -/
def State.refuse (s : State) (r : Refusal) : State :=
  { s with refused := match s.refused with | none => some r | some r' => some r' }

/-- Why a step stops (R11). -/
inductive Stop where
  | fault (r : Fault)
  | refuse (r : Refusal)
  deriving DecidableEq, Repr

/-- Take a stop: one mark, nothing else (R343). -/
def State.mark (s : State) : Stop → State
  | .fault r => s.raiseFault r
  | .refuse r => s.refuse r

/-! ### Results and recorded reads -/

/-- `return v` (00_scope.md R16). -/
def State.setRes (s : State) (v : Value) : State := { s with res := some v }

/-- Record a read (R11, log 12). -/
def State.recordRead (s : State) (r : ReadRec) : State := { s with lastRead := some r }

/-! ### Critical section (46_system.md R330, R331) -/

/-- CS_ENTER (R330). -/
def State.csEnter (s : State) : State := { s with csStack := s.imask :: s.csStack, imask := true }

/-- CS_EXIT (R331), none on an empty stack. -/
def State.csExit? (s : State) : Option State :=
  match s.csStack with
  | [] => none
  | m :: ms => some { s with imask := m, csStack := ms }

/-! ### Layers (10_state.md R53, log 17) -/

/-- Layer `k`, numbered from 1. -/
def State.layer (s : State) (k : Nat) : Layer := s.layers.getD (k - 1) {}

/-- Change layer `k`, numbered from 1. -/
def State.setLayer (s : State) (k : Nat) (l : Layer) : State := { s with layers := s.layers.set (k - 1) l }

/-- A register of one copy of a layer. -/
def LayerRegs.get (l : LayerRegs) : LayerReg → Word
  | .cr => l.cr
  | .whpcr => l.whpcr
  | .wvpcr => l.wvpcr
  | .ckcr => l.ckcr
  | .pfcr => l.pfcr
  | .cacr => l.cacr
  | .dccr => l.dccr
  | .bfcr => l.bfcr
  | .cfbar => l.cfbar
  | .cfblr => l.cfblr
  | .cfblnr => l.cfblnr

/-- Write a register of one copy of a layer. -/
def LayerRegs.set (l : LayerRegs) (w : Word) : LayerReg → LayerRegs
  | .cr => { l with cr := w }
  | .whpcr => { l with whpcr := w }
  | .wvpcr => { l with wvpcr := w }
  | .ckcr => { l with ckcr := w }
  | .pfcr => { l with pfcr := w }
  | .cacr => { l with cacr := w }
  | .dccr => { l with dccr := w }
  | .bfcr => { l with bfcr := w }
  | .cfbar => { l with cfbar := w }
  | .cfblr => { l with cfblr := w }
  | .cfblnr => { l with cfblnr := w }

/-! ### Register reads (20_memory.md R84, R85) -/

/-- The device registers of the FMC (10_state.md R41 to R45), which its clock and reset line govern. -/
def isFmcReg : Reg → Bool
  | .sdcr1 => true
  | .sdcr2 => true
  | .sdtr1 => true
  | .sdtr2 => true
  | .sdcmr => true
  | .sdrtr => true
  | .sdsr => true
  | _ => false

/-- What a register holds, in the bits `Params.mask` gives; a layer register is its shadow copy (45_ltdc.md R295). -/
def State.regHeld (s : State) : Reg → Word
  | .dwtCtrl => s.params.regMap.fields.cyccntena.putBit s.cyccntena
  | .dwtCyccnt => s.cyccnt
  | .demcr => s.params.regMap.fields.trcena.putBit s.trcena
  | .ahb3rstr => s.params.regMap.fields.fmcrst.putBit s.fmcrst
  | .ahb3enr => s.params.regMap.fields.fmcen.putBit s.fmcen
  | .sdcr1 => s.sdcr1
  | .sdcr2 => s.sdcr2
  | .sdtr1 => s.sdtr1
  | .sdtr2 => s.sdtr2
  | .sdcmr => s.sdcmr
  | .sdrtr => s.sdrtr
  | .sdsr => s.params.regMap.fields.busy.putBit s.busy
  | .sscr => s.sscr
  | .bpcr => s.bpcr
  | .awcr => s.awcr
  | .twcr => s.twcr
  | .gcr => s.gcr
  | .srcr => s.srcr
  | .bccr => s.bccr
  | .layer k r => (s.layer k).shadow.get r

/-- The part of a register read to which the spec gives a value: 0 from an unclocked FMC register
(44_sdram_sequencer.md R247), the reset value while the reset line is asserted (R226), else what the register holds. -/
def State.regKnown (s : State) (r : Reg) : Word :=
  if isFmcReg r && !s.fmcen then 0
  else if isFmcReg r && s.fmcrst then s.params.resetWord r
  else s.regHeld r

/-- The bits of a read that are a free value (log 10). -/
def State.regFreeMask (s : State) (r : Reg) : Word :=
  if isFmcReg r && !s.fmcWritable then 0 else ~~~s.params.mask r

/-- `RegRead(name)` as a word: the known part, and a fresh free value in the bits the spec leaves open. -/
def State.regValue (s : State) (r : Reg) : Word :=
  s.regKnown r ||| (Config.freeBits s.draws &&& s.regFreeMask r)

/-- `RegRead(name)` as a state change: the read is recorded, as the known part and the number of the free value that
`regValue` takes, and that free value is drawn; nothing else (R85). -/
def State.regRead (s : State) (r : Reg) : State :=
  { s with lastRead := some (.reg r (s.regKnown r) s.draws), draws := s.draws + 1 }

/-- `Sample()` (00_scope.md R16): the counter's value, with the read recorded. -/
def State.sample (s : State) : State := s.regRead .dwtCyccnt

/-! ### Register writes (R84, R85) -/

/-- The FMC reset of 44_sdram_sequencer.md R226, at the step that asserts the reset line. -/
def State.fmcReset (s : State) : State :=
  { s with
    fmcrst := true
    sdcr1 := s.params.resetWord .sdcr1
    sdcr2 := s.params.resetWord .sdcr2
    sdtr1 := s.params.resetWord .sdtr1
    sdtr2 := s.params.resetWord .sdtr2
    sdcmr := s.params.resetWord .sdcmr
    sdrtr := s.params.resetWord .sdrtr
    busy := false
    fmcPending := none
    seqResetAfterLive := s.seqResetAfterLive || s.seqPhase = .live }

/-- A write of GCR changes its read-write fields and keeps the read-only dither widths (10_state.md R49). -/
def gcrWrite (p : Params) (old w : Word) : Word :=
  (w &&& p.writeMask .gcr) ||| (old &&& fieldsMask p.regMap.fields.gcr.readOnly)

/-- A write of FMC_SDCMR (44_sdram_sequencer.md R245). -/
def State.writeSdcmr (s : State) (w : Word) : Except Fault State :=
  if !s.fmcWritable then .ok s
  else if s.busy then .error .commandCorrupted
  else .ok { s with sdcmr := w, fmcPending := some w, busy := true }

/-- `RegWrite(name, w)` (R85): reserved bits are written 0, read-only fields are kept, a 0 written to SRCR has no effect
(R52), FMC registers take writes only while clocked and not held in reset (R226, R247), a layer write changes the shadow
copy (R53), whether or not the map gives the layer a base (log 8). -/
def State.regWrite (s : State) (r : Reg) (w : Word) : Except Fault State :=
  match r with
  | .dwtCtrl => .ok { s with cyccntena := s.params.regMap.fields.cyccntena.isSet w }
  | .dwtCyccnt => .ok { s with cyccnt := w }
  | .demcr => .ok { s with trcena := s.params.regMap.fields.trcena.isSet w }
  | .ahb3rstr => .ok (if s.params.regMap.fields.fmcrst.isSet w then s.fmcReset else { s with fmcrst := false })
  | .ahb3enr => .ok { s with fmcen := s.params.regMap.fields.fmcen.isSet w }
  | .sdcr1 => .ok (if s.fmcWritable then { s with sdcr1 := w &&& s.params.writeMask .sdcr1 } else s)
  | .sdcr2 => .ok (if s.fmcWritable then { s with sdcr2 := w &&& s.params.writeMask .sdcr2 } else s)
  | .sdtr1 => .ok (if s.fmcWritable then { s with sdtr1 := w &&& s.params.writeMask .sdtr1 } else s)
  | .sdtr2 => .ok (if s.fmcWritable then { s with sdtr2 := w &&& s.params.writeMask .sdtr2 } else s)
  | .sdcmr => s.writeSdcmr w
  | .sdrtr => .ok (if s.fmcWritable then { s with sdrtr := w &&& s.params.writeMask .sdrtr } else s)
  | .sdsr => .ok s
  | .sscr => .ok { s with sscr := w &&& s.params.writeMask .sscr }
  | .bpcr => .ok { s with bpcr := w &&& s.params.writeMask .bpcr }
  | .awcr => .ok { s with awcr := w &&& s.params.writeMask .awcr }
  | .twcr => .ok { s with twcr := w &&& s.params.writeMask .twcr }
  | .gcr => .ok { s with gcr := gcrWrite s.params s.gcr w }
  | .srcr => .ok { s with srcr := s.srcr ||| (w &&& s.params.writeMask .srcr) }
  | .bccr => .ok { s with bccr := w &&& s.params.writeMask .bccr }
  | .layer k lr =>
    let l := s.layer k
    .ok (s.setLayer k { l with shadow := l.shadow.set (w &&& s.params.writeMask (.layer k lr)) lr })

/-! ### Key and value lists in canonical form: keys strictly rising (log 13) -/

/-- The value at key `k`. -/
def assocGet {α : Type} (k : Nat) : List (Nat × α) → Option α
  | [] => none
  | (j, v) :: rest => if j = k then some v else assocGet k rest

/-- Put `v` at key `k`, keeping the keys in order. -/
def assocSet {α : Type} (k : Nat) (v : α) : List (Nat × α) → List (Nat × α)
  | [] => [(k, v)]
  | (j, w) :: rest =>
    if k < j then (k, v) :: (j, w) :: rest
    else if k = j then (k, v) :: rest
    else (j, w) :: assocSet k v rest

/-- The keys rise strictly. -/
def assocWf {α : Type} : List (Nat × α) → Bool
  | [] => true
  | [_] => true
  | (a, _) :: (b, w) :: rest => decide (a < b) && assocWf ((b, w) :: rest)

/-! ### Byte memory (20_memory.md R81, R82; log 13) -/

/-- The memory is in canonical form: addresses strictly rising. An unlisted address holds no written byte, so no entry
equals what an unlisted address reads as. -/
def memoryWf (m : Memory) : Bool := assocWf m

/-- The byte written last at an address, none if nothing has written it. -/
def memoryGet (m : Memory) (a : Nat) : Option Byte := assocGet a m

/-- Write one byte. -/
def memorySet (m : Memory) (a : Nat) (b : Byte) : Memory := assocSet a b m

/-- The byte a read of the SDRAM gives: the one written last, or the free value of a byte never written. -/
def State.sdramByte (s : State) (a : Nat) : Byte := (memoryGet s.sdram a).getD (Config.sdramPowerOn a)

/-- `n` bytes from address `a` up. The bytes of a word are those of `put32`, least significant first (R82). -/
def State.sdramRead (s : State) (a : Nat) : Nat → List Byte
  | 0 => []
  | n + 1 => s.sdramByte a :: s.sdramRead (a + 1) n

/-- Bank 1's window holds the byte address (R81, R86), within the 2^32 bytes of R80. -/
def State.inBank1 (s : State) (a : Nat) : Bool :=
  decide (s.params.regMap.sdramBank1 ≤ a) && decide (a < s.params.regMap.sdramBank1 + Config.sdramWindowBytes) &&
    decide (a < 2 ^ 32)

/-- Bank 2's window holds the byte address (R81, R86), within the 2^32 bytes of R80. -/
def State.inBank2 (s : State) (a : Nat) : Bool :=
  decide (s.params.regMap.sdramBank2 ≤ a) && decide (a < s.params.regMap.sdramBank2 + Config.sdramWindowBytes) &&
    decide (a < 2 ^ 32)

/-- The byte address is in the window of a bank that is live (R81). -/
def State.byteLive (s : State) (a : Nat) : Bool := (s.inBank1 a && s.bank1Live) || (s.inBank2 a && s.bank2Live)

/-- The byte address is in the window of a bank whose WP is 1: writes are ignored (10_state.md R41, log 13). -/
def State.writeProtected (s : State) (a : Nat) : Bool :=
  (s.inBank1 a && s.params.regMap.fields.sdcr.wp.isSet s.sdcr1) || (s.inBank2 a && s.params.regMap.fields.sdcr.wp.isSet s.sdcr2)

/-- Write bytes from address `a` up; a write-protected byte keeps what it holds. -/
def State.sdramStore (s : State) (m : Memory) (a : Nat) : List Byte → Memory
  | [] => m
  | b :: rest => s.sdramStore (if s.writeProtected a then m else memorySet m a b) (a + 1) rest

/-! ### The host step (00_scope.md R10, R11, R16) -/

/-- What one act does: the step is made and the host moves on; or the host stays at the same point (a poll that holds, or
a sub-wait that is followed by another); or the step stops. -/
inductive ActResult where
  | done (s : State)
  | stay (s : State)
  | stop (r : Stop)

/-- A register write as an act. -/
def writeAct (s : State) (r : Reg) (w : Word) : ActResult :=
  match s.regWrite r w with
  | .ok t => .done t
  | .error f => .stop (.fault f)

/-- Set the latch of the running code. -/
def State.setLatch (s : State) (w : Word) : State := { s with ctx := { s.ctx with latch := w } }

/-- Set the wait registers of the running code (10_state.md R38). -/
def State.setWait (s : State) (w : Option WaitRegs) : State := { s with ctx := { s.ctx with wait := w } }

/-- The next sub-wait of `rem` ticks is at most `DELAY_CHUNK` long (41_delay.md R162). -/
def subWait (rem : DWord) : Word := BitVec.ofNat 32 (min rem.toNat Config.delayChunk)

/-- `RegModify(name, {f: v})` of one field (R15, R84): a read, then a write. -/
def setFieldActs (r : Reg) (f : BitField) (v : Nat) : List Act := [.read r, .writeMod r f.mask (f.put v)]

/-- The steps of enable, verify and reset pulse in phase CLOCK_ENABLE; the last enters GEOMETRY
(44_sdram_sequencer.md R225, R226). -/
def clockSteps (m : FieldMap) : List HostStep :=
  [⟨.read .ahb3enr, none, none⟩, ⟨.writeMod .ahb3enr m.fmcen.mask (m.fmcen.put 1), none, none⟩, ⟨.pollClock, none, none⟩,
    ⟨.read .ahb3rstr, none, none⟩, ⟨.writeMod .ahb3rstr m.fmcrst.mask (m.fmcrst.put 1), none, none⟩,
    ⟨.read .ahb3rstr, none, none⟩, ⟨.writeMod .ahb3rstr m.fmcrst.mask (m.fmcrst.put 0), some .geometry, none⟩]

/-- The first step of a delay of `t` ticks (41_delay.md R161, R172): the check, the reference sample, the wait
registers. -/
def delayStart (s : State) (t : DWord) : ActResult :=
  if t ≠ 0 ∧ s.counterEnabled = false then .stop (.refuse .counterDisabled)
  else if t = 0 then .done s.sample
  else .done (s.sample.setWait (some ⟨s.cyccnt, t, subWait t⟩))

/-- One poll of a delay (R161 to R163): `e = Sample() −₃₂ D_START` against `D_SUB`, as naturals. -/
def delayPoll (s : State) : ActResult :=
  match s.ctx.wait with
  | none => .done s.sample
  | some w =>
    if (s.cyccnt - w.start).toNat < w.sub.toNat then .stay s.sample
    else
      let rem := w.rem - w.sub.setWidth 64
      if rem = 0 then .done (s.sample.setWait none)
      else .stay (s.sample.setWait (some ⟨w.start + w.sub, rem, subWait rem⟩))

/-- The back-porch boundaries that LT_WINDOW_XYWH has read (45_ltdc.md R275): AHBP and AVBP. -/
def State.latchedPorch (s : State) : Nat × Nat :=
  ((s.params.regMap.fields.bpcr.high s.params.hFieldBits).get s.ctx.latch,
    (s.params.regMap.fields.bpcr.low s.params.vFieldBits).get s.ctx.latch)

/-- What one host step does. -/
def doAct (a : Act) (s : State) : ActResult :=
  match a with
  | .read r => .done ((s.regRead r).setLatch (s.regKnown r))
  | .writeMod r mask val => writeAct s r ((s.ctx.latch &&& ~~~mask) ||| (val &&& mask))
  | .write r w => writeAct s r w
  | .enter => .done s.csEnter
  | .leave =>
    match s.csExit? with
    | none => .stop (.refuse .unbalancedCriticalSection)
    | some t => .done t
  | .enterBringup b => .done { s.csEnter with seqBank := some b, seqPhase := .clockEnable }
  | .clockBranch =>
    let t := s.regRead .ahb3enr
    if s.fmcen then .done { t with seqPhase := .geometry }
    else .done { t with ctx := { t.ctx with todo := clockSteps s.params.regMap.fields ++ t.ctx.todo } }
  | .pollClock => if s.fmcen then .done (s.regRead .ahb3enr) else .stay (s.regRead .ahb3enr)
  | .pollReady => if s.busyRead then .stay (s.regRead .sdsr) else .done (s.regRead .sdsr)
  | .pollReload => if s.reloadReady then .done (s.regRead .srcr) else .stay (s.regRead .srcr)
  | .delayStart t => delayStart s t
  | .delayPoll => delayPoll s
  | .windowH layer x y w h =>
    let (ahbp, avbp) := s.latchedPorch
    match windowRefusal s.params (ahbp + 1 + x) (ahbp + x + w) (avbp + 1 + y) (avbp + y + h) with
    | some r => .stop (.refuse r)
    | none => writeAct s (.layer layer .whpcr) (s.params.windowH (ahbp + x + w) (ahbp + 1 + x))
  | .windowV layer y h =>
    let (_, avbp) := s.latchedPorch
    writeAct s (.layer layer .wvpcr) (s.params.windowV (avbp + y + h) (avbp + 1 + y))

/-- SEQ_PHASE takes the phase a step enters (44_sdram_sequencer.md R221). -/
def State.enterPhase (s : State) : Option SeqPhase → State
  | none => s
  | some p => { s with seqPhase := p }

/-- After a host step: between two operations the position is idle; otherwise LT_SETUP_STEP is the sub-operation of the
next step (45_ltdc.md R300). -/
def State.settle (s : State) : State :=
  match s.ctx.todo with
  | [] => { s with ctx := Ctx.idle }
  | h :: _ => { s with ctx := { s.ctx with setupStep := h.sub } }

/-- Perform the host step `h` in state `s`, whose list of steps no longer holds it. A step that stops leaves `orig`, the
state before it, with one mark (R343). -/
def performStep (orig s : State) (h : HostStep) : State :=
  match doAct h.act s with
  | .done t => (t.enterPhase h.phase).settle
  | .stay t => State.settle { t with ctx := { t.ctx with todo := h :: t.ctx.todo } }
  | .stop r => orig.mark r

/-- The running code's next host step; nothing between two operations. -/
def State.continueOp (s : State) : State :=
  match s.ctx.todo with
  | [] => s
  | h :: rest => performStep s { s with ctx := { s.ctx with todo := rest } } h

/-- Begin an operation whose host steps are `steps`: its first host step. -/
def State.beginSteps (s : State) (steps : List HostStep) : State :=
  match steps with
  | [] => s
  | h :: rest => performStep s { s with ctx := { Ctx.idle with todo := rest } } h

/-- `k` host steps of the running code with no step of another agent between them. -/
def State.continueFor (s : State) : Nat → State
  | 0 => s
  | k + 1 => s.continueOp.continueFor k

/-- Acts as host steps that enter no phase. -/
def plainSteps (acts : List Act) : List HostStep := acts.map fun a => ⟨a, none, none⟩

/-- What a meaning answers. Every meaning answers a next state: a fault or a refusal of the spec is a mark in it (R34,
R343, log 1). -/
abbrev Answer := Host.Outcome State Fault Refusal

/-- Begin an operation that is a list of plain acts. -/
def State.beginActs (s : State) (acts : List Act) : State := s.beginSteps (plainSteps acts)

end Sys2Proof.Machine
end

