-- ==== Sys2Proof/Machine/Bus.lean ====
section
/-! DEFINITION. What the host does beside invoking operations: reading RES (10_state.md R30, 70_reset_and_hazards.md R388), and,
in the model composed with the external SDRAM, byte accesses to its windows (20_memory.md R81, R82). -/

namespace Sys2Proof.Machine

/-- A read of RES (R30): before the first result RES holds no value (R57), and the fault is the outcome that R340's table and
93_implementation_defined.md's U2 give its read. The host binds the value to the name `k` (30_encoding.md R109,
log 28). -/
def State.readRes (s : State) (k : Nat) : State :=
  match s.res with
  | none => s.raiseFault .resUnwritten
  | some v => { s.recordRead (.res v) with names := assocSet k v s.names }

/-- A result as the bytes of an operand of its type (log 4): `ok t` as those of t, `some d` as those of d; none for a result
that is no operand (DESIGN CHOICE, log 28). -/
def valueBytes : Value → Option (List Byte)
  | .u32 v => some (put32 v)
  | .u16 v => some (put16 v)
  | .u13 v => some (put16 (v.setWidth 16))
  | .u24 v => some (put32 (v.setWidth 32))
  | .hz v => some (put32 v)
  | .bool b => some [(BitVec.ofBool b).setWidth 8]
  | .okTicks t => some (put64 t)
  | .errNoFrequency => none
  | .duration none => none
  | .duration (some d) => some (putDuration d)
  | .cycles _ => none

/-- The bytes of an invocation, with each name replaced by the result bound to it (R109); none if a name has no result that
can be an operand. The result's bytes stand in its own width, whatever the operand's type: a u16 named where a u32 is
due leaves the record two bytes short (DESIGN CHOICE, log 28). -/
def State.partBytes (s : State) : List OpPart → Option (List Byte)
  | [] => some []
  | .bytes bs :: rest => (s.partBytes rest).map (bs ++ ·)
  | .name k :: rest => do
    let v ← assocGet k s.names
    let bs ← valueBytes v
    let more ← s.partBytes rest
    return bs ++ more

/-! ### Accesses of the host to an address range (R81, R82; log 14) -/

/-- What the address range of an access reaches. -/
inductive BusTarget where
  /-- the four bytes of one block register -/
  | register (r : Reg)
  /-- a byte of a block register, in an access that is not its four bytes -/
  | partRegister
  /-- a byte in the window of a bank that is not live, and no block register -/
  | deadWindow
  /-- bytes in the windows of live banks, and nothing else -/
  | window
  /-- anything else: a byte that is in no block register and in no window -/
  | outside
  deriving DecidableEq, Repr

/-- The block registers with an address that a 32-bit access reaches (R80, R86). -/
def State.mappedRegs (s : State) : List (Reg × Nat) :=
  (Reg.all s.layers.length).filterMap fun r =>
    match s.params.regMap.addr r with
    | some a => if a + 4 ≤ 2 ^ 32 then some (r, a) else none
    | none => none

/-- The block register at an address; of two registers that a map puts at one address, the first of `Reg.all` (log 14). -/
def State.regAt (s : State) (a : Nat) : Option Reg := (s.mappedRegs.find? fun p => p.2 == a).map Prod.fst

/-- Some of the `n` bytes from `a` are in a block register. -/
def State.touchesReg (s : State) (a n : Nat) : Bool := s.mappedRegs.any fun p => decide (a < p.2 + 4) && decide (p.2 < a + n)

/-- The byte address is in the window of a bank that is not live (R81). -/
def State.byteDead (s : State) (a : Nat) : Bool := (s.inBank1 a || s.inBank2 a) && !s.byteLive a

/-- Every one of the `n` bytes from `a` has the property. -/
def allBytes (p : Nat → Bool) (a : Nat) : Nat → Bool
  | 0 => true
  | n + 1 => p a && allBytes p (a + 1) n

/-- What an access of `n` bytes at `a` reaches (R80, R81, R82, R86). A register decides before a window, and a window that is
not live before a byte that is nowhere (log 14). -/
def State.busTarget (s : State) (a n : Nat) : BusTarget :=
  match (if n = 4 then s.regAt a else none) with
  | some r => .register r
  | none =>
    if s.touchesReg a n && n != 0 then .partRegister
    else if !allBytes (fun x => !s.byteDead x) a n then .deadWindow
    else if allBytes s.byteLive a n then .window
    else .outside

/-- A host read of `n` bytes at `a`: of a register, whose shadow copy it gives if it has one (45_ltdc.md R295); of SDRAM
bytes of live banks; of a window that is not live, a fault (R81); of a register in another width, a refusal (R82). -/
def State.busRead (s : State) (a n : Nat) : Answer :=
  match s.busTarget a n with
  | .register r => .next (s.regRead r)
  | .partRegister => .next (s.refuse .mixedWidthAccess)
  | .deadWindow => .next (s.raiseFault .sdramNotLive)
  | .window => .next (s.recordRead (.mem a (s.sdramRead a n)))
  | .outside => .refused .outsideBlock

/-- A host write of bytes from `a` up. A write of a register beside the operations is no move of the host (R388). -/
def State.busWrite (s : State) (a : Nat) (bs : List Byte) : Answer :=
  match s.busTarget a bs.length with
  | .register _ => .refused .hostRegisterAccess
  | .partRegister => .next (s.refuse .mixedWidthAccess)
  | .deadWindow => .next (s.raiseFault .sdramNotLive)
  | .window => .next { s with sdram := s.sdramStore s.sdram a bs }
  | .outside => .refused .outsideBlock

end Sys2Proof.Machine
end

