-- ==== Sys2Proof/Machine/Agents.lean ====
section
/-! DEFINITION. The five agents (00_scope.md R8) and which of them moves (R9). A step of an agent that is not enabled leaves the
state as it is. The steps that run operations take the meaning of an operation, `exec`, as an argument. -/

namespace Sys2Proof.Machine

/-! ### TICK -/

/-- The TICK step (10_state.md R31, R36). -/
def State.tickStep (s : State) : State := if s.counterEnabled then { s with cyccnt := s.cyccnt + 1 } else s

/-! ### FMC (44_sdram_sequencer.md R246) -/

/-- The argument of a completed command: the refresh count of MODE 011, the mode-register value of MODE 100 (R246). -/
def commandArg (m : SdcmrFields) (w : Word) : Option Nat :=
  if m.mode.get w = 3 then some (m.nrfs.get w + 1) else if m.mode.get w = 4 then some (m.mrd.get w) else none

/-- The entry SDRAM_LOG takes for command `w` completed at count `c` (R246, 10_state.md R47). -/
def sdramEntry (m : SdcmrFields) (w c : Word) : SdramEntry :=
  ⟨m.ctb1.isSet w, m.ctb2.isSet w, BitVec.ofNat 3 (m.mode.get w), commandArg m w, c⟩

/-- The FMC step (R246). -/
def State.fmcStep (s : State) : State :=
  if s.fmcEnabled then
    match s.fmcPending with
    | none => s
    | some w =>
      { s with
        sdramLog := s.sdramLog ++ [sdramEntry s.params.regMap.fields.sdcmr w s.cyccnt]
        fmcPending := none
        busy := false }
  else s

/-! ### LTDC (45_ltdc.md R289) -/

/-- Every active layer register takes the shadow value (R289). -/
def activate (ls : List Layer) : List Layer := ls.map fun l => { l with active := l.shadow }

/-- The immediate reload (R289). -/
def State.ltdcReloadStep (s : State) : State :=
  if s.reloadEnabled then
    { s with
      layers := activate s.layers
      srcr := s.srcr &&& ~~~s.params.regMap.fields.imr.mask
      ltdcLog := s.ltdcLog ++ [.reload .immediate s.cyccnt] }
  else s

/-- The vertical blank (R289). -/
def State.ltdcVBlankStep (s : State) : State :=
  if s.vblankEnabled then
    if s.vbr then
      { s with
        layers := activate s.layers
        srcr := s.srcr &&& ~~~s.params.regMap.fields.vbr.mask
        ltdcLog := s.ltdcLog ++ [.vblank s.cyccnt, .reload .verticalBlank s.cyccnt] }
    else { s with ltdcLog := s.ltdcLog ++ [.vblank s.cyccnt] }
  else s

/-! ### IRQ (60_exceptions.md R344) -/

/-- An activation may begin (R344, R348). -/
def State.irqMayBegin (s : State) : Bool := !s.stopped && s.irq.isNone && !s.imask

/-- An activation begins (R344): the host's position is kept (R347). One of an empty program ends as it begins. -/
def State.irqBegin (s : State) : State :=
  if s.irqMayBegin && !s.params.irqProgram.isEmpty then
    { s with irq := some ⟨s.ctx, s.params.irqProgram, s.csStack⟩, ctx := Ctx.idle }
  else s

/-- The end of an interrupt step that has given `t` from `s`: after the last step of the activation `a` the host resumes
where it was preempted; with another CS_STACK than at the start the step is refused, and leaves `s` (R344, R343, log 18). -/
def irqFinish (s : State) (a : Activation) (t : State) : State :=
  if t.stopped then t
  else if !t.ctx.todo.isEmpty || !a.rest.isEmpty then t
  else if t.csStack = a.csStart then { t with ctx := a.saved, irq := none }
  else s.refuse .unbalancedCriticalSection

/-- A register of the block with a place in State (R86). -/
def State.regPresent (s : State) : Reg → Bool
  | .layer k r => decide (1 ≤ k) && decide (k ≤ s.layers.length) && (s.params.regMap.addr (.layer k r)).isSome
  | _ => true

/-- A raw read of the interrupt program (R344): the read is recorded. -/
def State.rawRead (s : State) (r : Reg) : Answer :=
  if s.regPresent r then .next (s.regRead r) else .refused .outsideBlock

/-- A raw write of the interrupt program (R344). -/
def State.rawWrite (s : State) (r : Reg) (w : Word) : Answer :=
  if s.regPresent r then
    match s.regWrite r w with
    | .ok t => .next t
    | .error f => .next (s.raiseFault f)
  else .refused .outsideBlock

/-- One item of the interrupt program (R344). -/
def irqItemWith (exec : Instr → State → Answer) (i : IrqItem) (s : State) : Answer :=
  match i with
  | .op o => exec o s
  | .regRead r => s.rawRead r
  | .regWrite r w => s.rawWrite r w

/-- One step of an activation in progress (R344): the next host step of its operation, or the first of the next item. -/
def irqRunWith (exec : Instr → State → Answer) (a : Activation) (s : State) : Answer :=
  match s.ctx.todo with
  | _ :: _ => .next (irqFinish s a s.continueOp)
  | [] =>
    match a.rest with
    | [] => .next (irqFinish s a s)
    | i :: rest =>
      let b := { a with rest := rest }
      match irqItemWith exec i { s with irq := some b } with
      | .next t => .next (irqFinish s b t)
      | .fault f => .fault f
      | .refused r => .refused r

/-- The IRQ step: it begins an activation, or goes on with the one in progress. After a mark interrupt code has no step
(R343). -/
def irqStepWith (exec : Instr → State → Answer) (s : State) : Answer :=
  if s.stopped then .next s
  else
    match s.irq with
    | none => .next s.irqBegin
    | some a => irqRunWith exec a s

/-! ### HOST -/

/-- The host has a step: no mark is set (R343) and no activation is in progress (R344). -/
def State.hostEnabled (s : State) : Bool := !s.stopped && s.irq.isNone

/-- The host begins an interaction (70_reset_and_hazards.md R388). A reserved opcode is refused (30_encoding.md R106), and so
is a record that is not of the shape its opcode fixes (log 5), a name with no result that can be an operand (R109, log 28),
and a command word the block does not issue (R113, log 6). Names are replaced before the opcode byte is looked at: of the
refusals of a reserved opcode and of an unusable name in one invocation, the name's comes first (DESIGN CHOICE, log 28). -/
def hostActWith (exec : Instr → State → Answer) (a : HostAct) (s : State) : Answer :=
  match a with
  | .op parts =>
    match s.partBytes parts with
    | none => .next (s.refuse .badOperand)
    | some bytes =>
      match decode bytes with
      | .ok (i, _) => exec i s
      | .error .reservedOpcode => .next (s.refuse .reservedOpcode)
      | .error .malformedRecord => .next (s.refuse .badOperand)
  | .command w =>
    match decodeCommand w with
    | some i => exec i s
    | none => .next (s.refuse .unsupportedCommand)
  | .readRes k => .next (s.readRes k)
  | .memRead a n => s.busRead a n
  | .memWrite a bs => s.busWrite a bs

/-- The host step (00_scope.md R10): the next step of the operation in progress, or the first of the next interaction. -/
def hostStepWith (exec : Instr → State → Answer) (s : State) : Answer :=
  if !s.hostEnabled then .next s
  else
    match s.ctx.todo with
    | _ :: _ => .next s.continueOp
    | [] =>
      match s.program with
      | [] => .next s
      | a :: rest => hostActWith exec a { s with program := rest }

/-! ### Which agent moves (R9, log 2) -/

/-- The agent that moves, and the state with that choice taken. -/
def State.takeMover (s : State) : Mover × State :=
  match s.sched with
  | m :: rest => (m, { s with sched := rest })
  | [] => (Config.nextMover s.draws, { s with draws := s.draws + 1 })

/-- A step of the agent `m`. -/
def agentStepWith (exec : Instr → State → Answer) (m : Mover) (s : State) : Answer :=
  match m with
  | .host => hostStepWith exec s
  | .tick => .next s.tickStep
  | .fmc => .next s.fmcStep
  | .ltdcReload => .next s.ltdcReloadStep
  | .ltdcVBlank => .next s.ltdcVBlankStep
  | .irq => irqStepWith exec s

/-- One step of the machine. A register map with an unaligned address is refused before anything runs (20_memory.md R83). -/
def stepWith (exec : Instr → State → Answer) (s : State) : Answer :=
  if s.params.regMap.aligned then agentStepWith exec s.takeMover.1 s.takeMover.2
  else .next (s.refuse .badRegMap)

end Sys2Proof.Machine
end

