-- ==== Sys2Proof/Machine/Calc.lean ====
section
/-! DEFINITION. TimingCalculator: TC_NANOS_TO_CYCLES, TC_REFRESH_COUNTER, TC_CONVERT_SPEC (43_timing_calc.md). Exact
arithmetic on naturals; the width of a result is checked at the end. -/

namespace Sys2Proof.Machine

/-- `ceildiv` (00_scope.md R14). -/
def ceilDiv (a b : Nat) : Nat := (a + b - 1) / b

/-- Cycles of `ns` nanoseconds at `clockFreq / divisor`, rounded up once (R201). -/
def cyclesOf (ns clockFreq divisor : Nat) : Nat := ceilDiv (ns * clockFreq) (divisor * 1000000000)

/-- The clamp of R201. -/
def clampCycles (c subtract minimum : Nat) : Nat := if c > minimum + subtract then c - subtract else minimum

/-- `nanos_to_cycles` (R201). -/
def nanosToCycles (ns clockFreq divisor subtract minimum : Nat) : Except Refusal Nat :=
  if clockFreq = 0 ∨ divisor = 0 then .error .badOperand
  else
    let r := clampCycles (cyclesOf ns clockFreq divisor) subtract minimum
    if r ≥ 2 ^ 32 then .error .overflow else .ok r

/-- The margin, threshold and fallback of R202. -/
def refreshOfRaw (raw : Nat) : Nat :=
  if raw ≤ Config.refreshThreshold then Config.refreshFallback else raw - Config.refreshMargin

/-- `refresh_counter` (R202). -/
def refreshCounter (periodNs clockFreq divisor rowCount : Nat) : Except Refusal Nat :=
  if clockFreq = 0 ∨ divisor = 0 ∨ rowCount = 0 then .error .badOperand
  else
    let v := refreshOfRaw (cyclesOf periodNs clockFreq divisor / rowCount)
    if v > 0xFFFF then .error .overflow else .ok v

/-- One field of `TC_CONVERT_SPEC` (R203). -/
def convertField (p : Params) (sm : SubMin) (ns clockFreq divisor : Nat) : Except Refusal Nat := do
  let c ← nanosToCycles ns clockFreq divisor sm.subtract sm.minimum
  if c ≥ 2 ^ p.timingFieldBits then .error .fieldOverflow else .ok c

/-- The refresh field of `TC_CONVERT_SPEC` (R203): it must fit the COUNT field, 13 bits in the default map (10_state.md R44,
log 33). -/
def convertRefresh (p : Params) (periodNs clockFreq divisor rowCount : Nat) : Except Refusal (BitVec 16) := do
  let v ← refreshCounter periodNs clockFreq divisor rowCount
  if v ≥ 2 ^ p.regMap.fields.sdrtr.count.width then .error .fieldOverflow else .ok (BitVec.ofNat 16 v)

/-- The function of TC_CONVERT_SPEC (R203), its checks in R203's order. -/
def convertSpec (p : Params) (t : TimingNs) (rowBits clockFreq divisor : Nat) : Except Refusal TimingSpecCycles := do
  let rcd ← convertField p p.timingSubMin.rcd t.rcd.toNat clockFreq divisor
  let rp ← convertField p p.timingSubMin.rp t.rp.toNat clockFreq divisor
  let wr ← convertField p p.timingSubMin.wr t.wr.toNat clockFreq divisor
  let rc ← convertField p p.timingSubMin.rc t.rc.toNat clockFreq divisor
  let ras ← convertField p p.timingSubMin.ras t.ras.toNat clockFreq divisor
  let xsr ← convertField p p.timingSubMin.xsr t.xsr.toNat clockFreq divisor
  let mrd ← convertField p p.timingSubMin.mrd t.mrd.toNat clockFreq divisor
  let refresh ← convertRefresh p t.refreshPeriod.toNat clockFreq divisor (2 ^ rowBits)
  return ⟨rcd, rp, wr, rc, ras, xsr, mrd, refresh⟩

/-- TC_NANOS_TO_CYCLES (R201). -/
def execTcNanosToCycles (ns clockFreq divisor subtract minimum : Word) (s : State) : Answer :=
  match nanosToCycles ns.toNat clockFreq.toNat divisor.toNat subtract.toNat minimum.toNat with
  | .ok r => .next (s.setRes (.u32 (BitVec.ofNat 32 r)))
  | .error e => .next (s.refuse e)

/-- TC_REFRESH_COUNTER (R202). -/
def execTcRefreshCounter (periodNs clockFreq divisor rowCount : Word) (s : State) : Answer :=
  match refreshCounter periodNs.toNat clockFreq.toNat divisor.toNat rowCount.toNat with
  | .ok v => .next (s.setRes (.u16 (BitVec.ofNat 16 v)))
  | .error e => .next (s.refuse e)

/-- TC_CONVERT_SPEC (R203). -/
def execTcConvertSpec (spec : TimingSpecNs) (clockFreq divisor : Word) (s : State) : Answer :=
  if !(timingSpecOk s.params.fieldValues spec && hzOk clockFreq) then .next (s.refuse .badOperand)
  else
    match convertSpec s.params spec.ns spec.rowBits.toNat clockFreq.toNat divisor.toNat with
    | .ok c => .next (s.setRes (.cycles c))
    | .error e => .next (s.refuse e)

end Sys2Proof.Machine
end

