-- ==== Sys2Proof/Machine/Float.lean ====
section
/-! DEFINITION. The binary floating-point arithmetic of 40_cycle_clock.md R149: one rounding of the frequency to the format,
one multiplication rounded to nearest even, then truncation. A finite value of a format is a natural number of its
smallest subnormal, so every step is exact arithmetic on naturals followed by one explicit rounding. -/

namespace Sys2Proof.Machine

/-- A binary interchange format of IEEE 754: fraction bits, exponent bits and bias. -/
structure FloatFormat where
  fracBits : Nat
  expBits : Nat
  bias : Nat
  deriving DecidableEq, Repr

/-- binary32 (30_encoding.md R101). -/
def binary32 : FloatFormat := ⟨23, 8, 127⟩
/-- binary64 (R101). -/
def binary64 : FloatFormat := ⟨52, 11, 1023⟩

/-- The smallest subnormal is 2 to the minus this. -/
def FloatFormat.scale (F : FloatFormat) : Nat := F.bias - 1 + F.fracBits

/-- Round `n` to `p` significant bits, to nearest, ties to even (R149). -/
def roundNearestEven (p n : Nat) : Nat :=
  let sh := Nat.log2 n + 1 - p
  let q := n >>> sh
  let r := n - (q <<< sh)
  if 2 * r > 2 ^ sh ∨ (2 * r = 2 ^ sh ∧ q % 2 = 1) then (q + 1) <<< sh else q <<< sh

/-- The sign bit of an encoded value. -/
def FloatFormat.sign (F : FloatFormat) (b : Nat) : Nat := (b >>> (F.fracBits + F.expBits)) % 2
/-- The exponent field. -/
def FloatFormat.expField (F : FloatFormat) (b : Nat) : Nat := (b >>> F.fracBits) % 2 ^ F.expBits
/-- The fraction field. -/
def FloatFormat.fracField (F : FloatFormat) (b : Nat) : Nat := b % 2 ^ F.fracBits
/-- NaN or infinite. -/
def FloatFormat.special (F : FloatFormat) (b : Nat) : Bool := F.expField b == 2 ^ F.expBits - 1
/-- NaN. -/
def FloatFormat.isNaN (F : FloatFormat) (b : Nat) : Bool := F.special b && F.fracField b != 0

/-- The magnitude of a finite value, in smallest subnormals. -/
def FloatFormat.magnitude (F : FloatFormat) (b : Nat) : Nat :=
  if F.expField b = 0 then F.fracField b else (2 ^ F.fracBits + F.fracField b) <<< (F.expField b - 1)

/-- The product of R149 in smallest subnormals, before the check for infinity. -/
def FloatFormat.product (F : FloatFormat) (b f : Nat) : Nat :=
  roundNearestEven (F.fracBits + 1) (F.magnitude b * roundNearestEven (F.fracBits + 1) f)

/-- `SecsToTicks32` and `SecsToTicks64` (R149): `b` is the bits of the seconds, `f` the frequency. The refusals are
checked in R149's order, so minus infinity is a negative duration (log 16). -/
def FloatFormat.secsToTicks (F : FloatFormat) (b f : Nat) : Except Refusal DWord :=
  if F.sign b = 1 ∧ F.isNaN b = false ∧ (F.special b = true ∨ F.magnitude b ≠ 0) then .error .negativeDuration
  else if F.special b then .error .badOperand
  else if F.product b f ≥ 2 ^ (F.bias + 1 + F.scale) then .error .badOperand
  else if F.product b f ≥ 2 ^ (64 + F.scale) then .error .overflow
  else .ok (BitVec.ofNat 64 (F.product b f >>> F.scale))

end Sys2Proof.Machine
end

