-- ==== Sys2Proof/Machine/Cycle.lean ====
section
/-! DEFINITION. CycleClock and Duration: CC_NOW, CC_ELAPSED, CC_ENABLE, DUR_TO_TICKS (40_cycle_clock.md). -/

namespace Sys2Proof.Machine

/-- `NanosToTicks(n, f)` (R148): the exact product divided by 10^9, truncating. -/
def nanosToTicks (n : DWord) (f : Word) : Except Refusal DWord :=
  let t := n.toNat * f.toNat / 1000000000
  if t < 2 ^ 64 then .ok (BitVec.ofNat 64 t) else .error .overflow

/-- What a conversion to ticks gives (R147): ticks, the error value NoFrequency, or a refusal. -/
inductive Conversion where
  | ticks (t : DWord)
  | noFrequency
  | refused (r : Refusal)
  deriving DecidableEq, Repr

/-- A conversion that carries a frequency. -/
def conversionOf : Except Refusal DWord → Conversion
  | .ok t => .ticks t
  | .error r => .refused r

/-- The function of DUR_TO_TICKS (R147). -/
def durationTicks (d : Duration) : Conversion :=
  match d.form, d.freq with
  | .ticks t, _ => .ticks t
  | .nanos _, none => .noFrequency
  | .secs32 _, none => .noFrequency
  | .secs64 _, none => .noFrequency
  | .nanos n, some f => conversionOf (nanosToTicks n f)
  | .secs32 x, some f => conversionOf (binary32.secsToTicks x.toNat f.toNat)
  | .secs64 x, some f => conversionOf (binary64.secsToTicks x.toNat f.toNat)

/-- CC_NOW (R141): one counter sample. -/
def execCcNow (s : State) : Answer := .next (s.sample.setRes (.u32 s.cyccnt))

/-- CC_ELAPSED (R142): one counter sample, modular difference. -/
def execCcElapsed (since : Word) (s : State) : Answer := .next (s.sample.setRes (.u32 (s.cyccnt - since)))

/-- The four host steps of CC_ENABLE (R144). -/
def ccEnableActs (m : FieldMap) : List Act := setFieldActs .demcr m.trcena 1 ++ setFieldActs .dwtCtrl m.cyccntena 1

/-- CC_ENABLE (R144). -/
def execCcEnable (s : State) : Answer := .next (s.beginActs (ccEnableActs s.params.regMap.fields))

/-- DUR_TO_TICKS (R147). -/
def execDurToTicks (d : Duration) (s : State) : Answer :=
  if !durationOk d then .next (s.refuse .badOperand)
  else
    match durationTicks d with
    | .ticks t => .next (s.setRes (.okTicks t))
    | .noFrequency => .next (s.setRes .errNoFrequency)
    | .refused r => .next (s.refuse r)

end Sys2Proof.Machine
end

