-- ==== Sys2Proof/Machine/Delay.lean ====
section
/-! DEFINITION. DelayEngine: DLY_TICKS, DLY_US, DLY_MS, DLY_S_F32, DLY_S_F64, DLY_DURATION (41_delay.md). -/

namespace Sys2Proof.Machine

/-- The host steps of a delay of `t` ticks (R161): the sample, and polls if there is anything to wait for. -/
def delayActs (t : DWord) : List Act := if t = 0 then [.delayStart t] else [.delayStart t, .delayPoll]

/-- Begin a delay of `t` ticks (R161, R172). -/
def State.beginDelay (s : State) (t : DWord) : State := s.beginActs (delayActs t)

/-- Ticks of `n` units of which `perSecond` make a second, at `CLK_HZ` (R165, R166): exact product, truncating. -/
def unitTicks (n clkHz : Word) (perSecond : Nat) : DWord := BitVec.ofNat 64 (n.toNat * clkHz.toNat / perSecond)

/-- Begin a delay given in seconds (R167, R168). -/
def State.beginDelayOf (s : State) : Except Refusal DWord → State
  | .ok t => s.beginDelay t
  | .error r => s.refuse r

/-- DLY_TICKS (R161). -/
def execDlyTicks (t : DWord) (s : State) : Answer := .next (s.beginDelay t)

/-- DLY_US (R165). -/
def execDlyUs (n : Word) (s : State) : Answer := .next (s.beginDelay (unitTicks n s.params.clkHz 1000000))

/-- DLY_MS (R166). -/
def execDlyMs (n : Word) (s : State) : Answer := .next (s.beginDelay (unitTicks n s.params.clkHz 1000))

/-- DLY_S_F32 (R167). -/
def execDlySF32 (sec : Word) (s : State) : Answer :=
  .next (s.beginDelayOf (binary32.secsToTicks sec.toNat s.params.clkHz.toNat))

/-- DLY_S_F64 (R168). -/
def execDlySF64 (sec : DWord) (s : State) : Answer :=
  .next (s.beginDelayOf (binary64.secsToTicks sec.toNat s.params.clkHz.toNat))

/-- DLY_DURATION (R169): the frequency is the duration's own. -/
def execDlyDuration (d : Duration) (s : State) : Answer :=
  if !durationOk d then .next (s.refuse .badOperand)
  else
    match durationTicks d with
    | .ticks t => .next (s.beginDelay t)
    | .noFrequency => .next (s.raiseFault .conversionFailure)
    | .refused r => .next (s.refuse r)

end Sys2Proof.Machine
end

