-- ==== Sys2Proof/Machine/Ltdc.lean ====
section
/-! DEFINITION. DisplayTimingConfigurator: the LT operations (45_ltdc.md). A layer operand is checked against NUM_LAYERS, the
number of layers State holds, before anything else (R107, log 17). -/

namespace Sys2Proof.Machine

/-! ### The host steps of each operation -/

/-- LT_SET_TIMING (R272): four writes, in this order. -/
def setTimingActs (p : Params) (t : DisplayTimingSpec) : List Act :=
  let h := hBounds t
  let v := vBounds t
  [.write .sscr (p.boundary p.regMap.fields.sscr h.sw v.sw), .write .bpcr (p.boundary p.regMap.fields.bpcr h.bp v.bp),
    .write .awcr (p.boundary p.regMap.fields.awcr h.aw v.aw), .write .twcr (p.boundary p.regMap.fields.twcr h.tot v.tot)]

/-- LT_WINDOW (R274): stop in the high field, start in the low one (R120). -/
def windowActs (p : Params) (k hStart hStop vStart vStop : Nat) : List Act :=
  [.write (.layer k .whpcr) (p.windowH hStop hStart), .write (.layer k .wvpcr) (p.windowV vStop vStart)]

/-- LT_WINDOW_XYWH (R275): the read of the back-porch boundaries, then the steps of LT_WINDOW. -/
def windowXywhActs (k x y w h : Nat) : List Act := [.read .bpcr, .windowH k x y w h, .windowV k y h]

/-- LT_BGCOLOR (R276). -/
def bgcolorActs (m : FieldMap) (rgb : Word) : List Act := [.write .bccr (m.bccr.word rgb)]

/-- LT_POLARITY (R277). -/
def polarityActs (m : FieldMap) (hs vs de pc : Byte) : List Act :=
  [.read .gcr, .writeMod .gcr m.gcr.polarityMask (m.gcr.polarity (boolOf hs) (boolOf vs) (boolOf de) (boolOf pc))]

/-- LT_PIXEL_FORMAT (R278). -/
def pixelFormatActs (m : FieldMap) (k : Nat) (pf : Byte) : List Act := [.write (.layer k .pfcr) (m.layer.pf.put pf.toNat)]

/-- LT_DEFAULT_COLOR (R279): the whole word. -/
def defaultColorActs (k : Nat) (argb : Word) : List Act := [.write (.layer k .dccr) argb]

/-- LT_CONST_ALPHA (R280). -/
def constAlphaActs (m : FieldMap) (k : Nat) (a : Byte) : List Act := [.write (.layer k .cacr) (m.layer.consta.put a.toNat)]

/-- LT_BLEND (R281). -/
def blendActs (m : FieldMap) (k : Nat) (bf1 bf2 : Byte) : List Act := [.write (.layer k .bfcr) (blendWord m bf1 bf2)]

/-- LT_COLOR_KEY (R282): the key, then COLKEN. -/
def colorKeyActs (p : Params) (k : Nat) (fmt : Byte) (key : Word) : List Act :=
  [.write (.layer k .ckcr) (p.regMap.fields.layer.ckcr.word (colorKey888 p fmt key))] ++
    setFieldActs (.layer k .cr) p.regMap.fields.layer.colken 1

/-- LT_LINE_CONFIG (R283): the pitch, and the length plus the bias; then the line count. -/
def lineConfigActs (p : Params) (k widthPx bytesPp lines : Nat) : List Act :=
  let len := lineBytes widthPx bytesPp
  [.write (.layer k .cfblr) (p.regMap.fields.layer.lineWord (linePitch len) (len + p.cfbllBias)),
    .write (.layer k .cfblnr) (p.regMap.fields.layer.cfblnbr.put lines)]

/-- LT_FB_ADDR (R284): the whole word. -/
def fbAddrActs (k : Nat) (addr : Word) : List Act := [.write (.layer k .cfbar) addr]

/-- LT_LAYER_ENABLE (R286). -/
def layerEnableActs (m : FieldMap) (k : Nat) : List Act := setFieldActs (.layer k .cr) m.layer.len 1

/-- The reload bit of a mode (R287): IMR for Immediate, VBR for VerticalBlank. -/
def reloadBit (m : FieldMap) : ReloadMode → Word
  | .immediate => m.imr.put 1
  | .verticalBlank => m.vbr.put 1

/-- LT_RELOAD (R287). -/
def reloadActs (m : FieldMap) (mode : ReloadMode) : List Act := [.write .srcr (reloadBit m mode)]

/-- LT_DITHER_ENABLE (R291). -/
def ditherActs (m : FieldMap) : List Act := setFieldActs .gcr m.gcr.den 1

/-- LT_ENABLE (R292). -/
def enableActs (m : FieldMap) : List Act := setFieldActs .gcr m.gcr.ltdcen 1

/-! ### The full setup (R300 to R303) -/

/-- The sub-operations of one layer, in R300's order. -/
def layerSetup (p : Params) (l : LayerConfig) : List (List Act) :=
  let k := l.layer.toNat
  let m := p.regMap.fields
  [pixelFormatActs m k l.pf, defaultColorActs k l.defaultColor, constAlphaActs m k l.constAlpha,
    blendActs m k l.bf1 l.bf2] ++
  (match l.colorKey with
    | none => []
    | some key => [colorKeyActs p k key.fmt key.key]) ++
  [windowXywhActs k l.x.toNat l.y.toNat l.w.toNat l.h.toNat,
    lineConfigActs p k l.w.toNat (bytesPerPixel l.pf) l.h.toNat] ++
  (match l.fbAddr with
    | none => []
    | some a => [fbAddrActs k a])

/-- The enables of the layers that have a framebuffer address (R300). -/
def layerEnables (m : FieldMap) (ls : List LayerConfig) : List (List Act) :=
  (ls.filter fun l => l.fbAddr.isSome).map fun l => layerEnableActs m l.layer.toNat

/-- The sub-operations of LT_SETUP, in order (R300, R302). -/
def setupOps (p : Params) (c : LtdcConfig) : List (List Act) :=
  let m := p.regMap.fields
  [bgcolorActs m c.bg, polarityActs m c.hs c.vs c.de c.pc, setTimingActs p c.timing] ++
    c.layers.flatMap (layerSetup p) ++
    [reloadActs m .immediate, [.pollReload]] ++
    layerEnables m c.layers ++
    [ditherActs m, reloadActs m .immediate, [.pollReload], enableActs m]

/-- The host steps of numbered sub-operations, numbered from `k` (R300, log 15). -/
def numberedSteps (k : Nat) : List (List Act) → List HostStep
  | [] => []
  | op :: rest => (op.map fun a => ⟨a, none, some k⟩) ++ numberedSteps (k + 1) rest

/-- Every sub-operation's operands are in their legal sets, beyond the record's type (R301). -/
def layerOperandsOk (l : LayerConfig) : Bool :=
  blendOk l.bf1 l.bf2 && l.w != 0 && l.h != 0 && lineOk l.w.toNat (bytesPerPixel l.pf) &&
    (match l.colorKey with
    | none => true
    | some key => colorKeyOk key.fmt key.key)

/-- The window a layer will get fits its fields: its last pixel and line, computed from the porch that the setup's own
timing will give (R301). -/
def layerWindowFits (p : Params) (t : DisplayTimingSpec) (l : LayerConfig) : Bool :=
  decide ((hBounds t).bp + l.x.toNat + l.w.toNat < 2 ^ p.hFieldBits) &&
    decide ((vBounds t).bp + l.y.toNat + l.h.toNat < 2 ^ p.vFieldBits)

/-- Every value of a layer fits its field (R301, R274, R283). -/
def layerFits (p : Params) (t : DisplayTimingSpec) (l : LayerConfig) : Bool :=
  layerWindowFits p t l && lineFits p l.w.toNat (bytesPerPixel l.pf) l.h.toNat

/-- The checks of LT_SETUP before its first write (R301): operands outside a legal set first (R346, log 15), then values
that do not fit. -/
def setupRefusal (n : Nat) (p : Params) (c : LtdcConfig) : Option Refusal :=
  if !(ltdcConfigOk n c && timingSyncOk c.timing && c.layers.all layerOperandsOk) then some .badOperand
  else if !(timingFits p c.timing && c.layers.all (layerFits p c.timing)) then some .fieldOverflow
  else none

/-! ### Meanings -/

/-- NUM_LAYERS (10_state.md R53, log 17). -/
def State.numLayers (s : State) : Nat := s.layers.length

/-- LT_SET_TIMING (R272). -/
def execLtSetTiming (spec : DisplayTimingSpec) (s : State) : Answer :=
  match timingRefusal s.params spec with
  | some r => .next (s.refuse r)
  | none => .next (s.beginActs (setTimingActs s.params spec))

/-- LT_WINDOW (R274). -/
def execLtWindow (layer : Byte) (hStart hStop vStart vStop : BitVec 16) (s : State) : Answer :=
  if !layerOk s.numLayers layer then .next (s.refuse .badOperand)
  else
    match windowRefusal s.params hStart.toNat hStop.toNat vStart.toNat vStop.toNat with
    | some r => .next (s.refuse r)
    | none => .next (s.beginActs (windowActs s.params layer.toNat hStart.toNat hStop.toNat vStart.toNat vStop.toNat))

/-- LT_WINDOW_XYWH (R275). -/
def execLtWindowXywh (layer : Byte) (x y w h : BitVec 16) (s : State) : Answer :=
  if !layerOk s.numLayers layer then .next (s.refuse .badOperand)
  else if w = 0 ∨ h = 0 then .next (s.refuse .badOperand)
  else .next (s.beginActs (windowXywhActs layer.toNat x.toNat y.toNat w.toNat h.toNat))

/-- LT_RELOAD (R287). -/
def execLtReload (mode : Byte) (s : State) : Answer :=
  match reloadModeOf mode with
  | none => .next (s.refuse .badOperand)
  | some m => .next (s.beginActs (reloadActs s.params.regMap.fields m))

/-- LT_READY (R288): one read of SRCR. -/
def execLtReady (s : State) : Answer := .next ((s.regRead .srcr).setRes (.bool s.reloadReady))

/-- LT_WAIT_READY (R290). -/
def execLtWaitReady (s : State) : Answer := .next (s.beginActs [.pollReload])

/-- LT_BGCOLOR (R276). -/
def execLtBgcolor (rgb : Word) (s : State) : Answer :=
  if !u24Ok rgb then .next (s.refuse .badOperand) else .next (s.beginActs (bgcolorActs s.params.regMap.fields rgb))

/-- LT_POLARITY (R277). -/
def execLtPolarity (hs vs de pc : Byte) (s : State) : Answer :=
  if !(boolOk hs && boolOk vs && boolOk de && boolOk pc) then .next (s.refuse .badOperand)
  else .next (s.beginActs (polarityActs s.params.regMap.fields hs vs de pc))

/-- LT_PIXEL_FORMAT (R278). -/
def execLtPixelFormat (layer pf : Byte) (s : State) : Answer :=
  if !(layerOk s.numLayers layer && u3Ok pf) then .next (s.refuse .badOperand)
  else .next (s.beginActs (pixelFormatActs s.params.regMap.fields layer.toNat pf))

/-- LT_DEFAULT_COLOR (R279). -/
def execLtDefaultColor (layer : Byte) (argb : Word) (s : State) : Answer :=
  if !layerOk s.numLayers layer then .next (s.refuse .badOperand)
  else .next (s.beginActs (defaultColorActs layer.toNat argb))

/-- LT_CONST_ALPHA (R280). -/
def execLtConstAlpha (layer a : Byte) (s : State) : Answer :=
  if !layerOk s.numLayers layer then .next (s.refuse .badOperand)
  else .next (s.beginActs (constAlphaActs s.params.regMap.fields layer.toNat a))

/-- LT_BLEND (R281). -/
def execLtBlend (layer bf1 bf2 : Byte) (s : State) : Answer :=
  if !(layerOk s.numLayers layer && u3Ok bf1 && u3Ok bf2 && blendOk bf1 bf2) then .next (s.refuse .badOperand)
  else .next (s.beginActs (blendActs s.params.regMap.fields layer.toNat bf1 bf2))

/-- LT_COLOR_KEY (R282). -/
def execLtColorKey (layer fmt : Byte) (key : Word) (s : State) : Answer :=
  if !(layerOk s.numLayers layer && boolOk fmt && u24Ok key && colorKeyOk fmt key) then .next (s.refuse .badOperand)
  else .next (s.beginActs (colorKeyActs s.params layer.toNat fmt key))

/-- LT_LINE_CONFIG (R283). -/
def execLtLineConfig (layer : Byte) (widthPx : BitVec 16) (bytesPp : Byte) (lines : BitVec 16) (s : State) : Answer :=
  if !(layerOk s.numLayers layer && lineOk widthPx.toNat bytesPp.toNat) then .next (s.refuse .badOperand)
  else if !lineFits s.params widthPx.toNat bytesPp.toNat lines.toNat then .next (s.refuse .fieldOverflow)
  else .next (s.beginActs (lineConfigActs s.params layer.toNat widthPx.toNat bytesPp.toNat lines.toNat))

/-- LT_FB_ADDR (R284). -/
def execLtFbAddr (layer : Byte) (addr : Word) (s : State) : Answer :=
  if !layerOk s.numLayers layer then .next (s.refuse .badOperand)
  else .next (s.beginActs (fbAddrActs layer.toNat addr))

/-- LT_LAYER_ENABLE (R286). -/
def execLtLayerEnable (layer : Byte) (s : State) : Answer :=
  if !layerOk s.numLayers layer then .next (s.refuse .badOperand)
  else .next (s.beginActs (layerEnableActs s.params.regMap.fields layer.toNat))

/-- LT_DITHER_ENABLE (R291). -/
def execLtDitherEnable (s : State) : Answer := .next (s.beginActs (ditherActs s.params.regMap.fields))

/-- LT_ENABLE (R292). -/
def execLtEnable (s : State) : Answer := .next (s.beginActs (enableActs s.params.regMap.fields))

/-- LT_SETUP (R300). -/
def execLtSetup (cfg : LtdcConfig) (s : State) : Answer :=
  match setupRefusal s.numLayers s.params cfg with
  | some r => .next (s.refuse r)
  | none => .next (s.beginSteps (numberedSteps 1 (setupOps s.params cfg)))

/-- LT_RGB565_TO_888 (R285). -/
def execLtRgb565To888 (c : BitVec 16) (s : State) : Answer := .next (s.setRes (.u24 (rgb565To888 s.params c)))

end Sys2Proof.Machine
end

