-- ==== Sys2Proof/Machine/Sdram.lean ====
section
/-! DEFINITION. MemoryControllerSequencer: SD_BRINGUP, SD_SEND_CMD, SD_WAIT_READY, SD_MODE_WORD, and the four command words
of format SDCMR (44_sdram_sequencer.md). -/

namespace Sys2Proof.Machine

/-! ### The command sub-protocol (R235, R242) -/

/-- `SEND(bank, mode, nrfs, mrd)` (R242): the ready poll, then one atomic write of the command word. -/
def sendActs (m : FieldMap) (b : Bank) (mode : BitVec 3) (nrfs : BitVec 4) (mrd : BitVec 13) : List Act :=
  [.pollReady, .write .sdcmr (m.sdcmr.word mode b.ctb1 b.ctb2 nrfs mrd)]

/-- The MODE codes the block issues (30_encoding.md R113). -/
def commandIssued (mode : Byte) : Bool := mode == 1 || mode == 2 || mode == 3 || mode == 4

/-! ### The bring-up, phase by phase (R221 to R241) -/

/-- The steps of a phase whose last step enters the phase `p` (R221). -/
def phaseSteps (p : SeqPhase) : List Act → List HostStep
  | [] => []
  | [a] => [⟨a, some p, none⟩]
  | a :: b :: rest => ⟨a, none, none⟩ :: phaseSteps p (b :: rest)

/-- Phase GEOMETRY (R228, R230): `full` has every control field, `shared` is the bank-1-only bits. R228's `common` is taken
as the fields that are not bank-1-only, which with another BANK1_ONLY_CTRL than the default is not the six R228 lists
(DESIGN CHOICE, log 27). -/
def geometryActs (b : Bank) (full shared : Word) : List Act :=
  match b with
  | .bankA => [.write .sdcr1 full]
  | .bothBanks => [.write .sdcr1 full, .write .sdcr2 (full &&& ~~~shared)]
  | .bankB => [.read .sdcr1, .writeMod .sdcr1 shared full, .write .sdcr2 (full &&& ~~~shared)]

/-- Phase TIMING (R231, R232): `full` has every timing field, `only` is the bank-1-only bits. -/
def timingActs (b : Bank) (full only : Word) : List Act :=
  match b with
  | .bankA => [.write .sdtr1 full]
  | .bothBanks => [.write .sdtr1 full, .write .sdtr2 (full &&& ~~~only)]
  | .bankB => [.read .sdtr1, .writeMod .sdtr1 only full, .write .sdtr2 (full &&& ~~~only)]

/-- The ticks of the power-up wait (R236). -/
def powerupTicks (clkHz : Word) : DWord := unitTicks (BitVec.ofNat 32 Config.sdramPowerupUs) clkHz 1000000

/-- Phase CMD_CLK (R236). -/
def cmdClkActs (m : FieldMap) (b : Bank) (clkHz : Word) : List Act :=
  sendActs m b 1 0 0 ++ delayActs (powerupTicks clkHz) ++ [.pollReady]

/-- Phase CMD_PALL (R237). -/
def cmdPallActs (m : FieldMap) (b : Bank) : List Act := sendActs m b 2 0 0 ++ [.pollReady]

/-- Phase CMD_AREF (R238): the NRFS field holds the count minus 1. -/
def cmdArefActs (m : FieldMap) (b : Bank) : List Act :=
  sendActs m b 3 (BitVec.ofNat 4 (Config.autorefreshCount - 1)) 0 ++ [.pollReady]

/-- Phase CMD_LMR (R239). -/
def cmdLmrActs (m : FieldMap) (b : Bank) (mr : BitVec 13) : List Act := sendActs m b 4 0 mr ++ [.pollReady]

/-- The host steps of a bring-up (R222): `sdcr` and `sdtr` are the full register words, `mr` the mode word. -/
def bringupSteps (p : Params) (b : Bank) (sdcr sdtr : Word) (mr : BitVec 13) (refresh : BitVec 16) : List HostStep :=
  [⟨.enterBringup b, none, none⟩, ⟨.clockBranch, none, none⟩] ++
    phaseSteps .timing (geometryActs b sdcr (ctrlMask p.regMap.fields p.bank1OnlyCtrl)) ++
    phaseSteps .cmdClk (timingActs b sdtr (timMask p.regMap.fields p.bank1OnlyTiming)) ++
    phaseSteps .cmdPall (cmdClkActs p.regMap.fields b p.clkHz) ++
    phaseSteps .cmdAref (cmdPallActs p.regMap.fields b) ++
    phaseSteps .cmdLmr (cmdArefActs p.regMap.fields b) ++
    phaseSteps .refresh (cmdLmrActs p.regMap.fields b mr) ++
    [⟨.write .sdrtr (sdrtrWord p.regMap.fields refresh), some .live, none⟩, ⟨.leave, none, none⟩]

/-- The bank, control word and mode word of a bring-up, none if a geometry or mode value is outside its legal set
(R223 item 2, R229, R244). The CAS latency of the geometry feeds both (R222, D29). -/
def bringupWords (p : Params) (cfg : SdramConfig) : Option (Word × BitVec 13) := do
  let sdcr ← sdcrWord p.regMap.fields p.fieldValues cfg.geometry
  let mr ← modeWord p ⟨cfg.mode, cfg.geometry.casLatency⟩
  return (sdcr, mr)

/-- The conversion of a bring-up's timing, by CLK_HZ and the geometry's divisor (R222, D54). -/
def bringupCycles (p : Params) (cfg : SdramConfig) : Except Refusal TimingSpecCycles :=
  convertSpec p cfg.timing cfg.geometry.rowBits.toNat p.clkHz.toNat cfg.geometry.sdclkDiv.toNat

/-- SD_BRINGUP (R222, R223): every check before any state change, in R223's order. -/
def execSdBringup (bank : Byte) (cfg : SdramConfig) (s : State) : Answer :=
  match bankOf bank with
  | none => .next (s.refuse .badOperand)
  | some b =>
    if !(boolOk cfg.geometry.writeProtect && boolOk cfg.geometry.readBurst) then .next (s.refuse .badOperand)
    else if s.seqPhase ≠ .idle then .next (s.refuse .sequencerReentered)
    else
      match bringupWords s.params cfg with
      | none => .next (s.refuse .badOperand)
      | some (sdcr, mr) =>
        if s.counterEnabled = false then .next (s.refuse .counterDisabled)
        else
          match bringupCycles s.params cfg with
          | .error e => .next (s.refuse e)
          | .ok cyc => .next (s.beginSteps (bringupSteps s.params b sdcr (sdtrWord s.params.regMap.fields cyc) mr cyc.refresh))

/-! ### Command operations -/

/-- SD_SEND_CMD (R242). -/
def execSdSendCmd (bank mode nrfs : Byte) (mrd : BitVec 16) (s : State) : Answer :=
  match bankOf bank with
  | none => .next (s.refuse .badOperand)
  | some b =>
    if !(u3Ok mode && u4Ok nrfs && u13Ok mrd) then .next (s.refuse .badOperand)
    else if !commandIssued mode then .next (s.refuse .unsupportedCommand)
    else .next (s.beginActs
      ([.enter] ++ sendActs s.params.regMap.fields b (mode.setWidth 3) (nrfs.setWidth 4) (mrd.setWidth 13) ++ [.leave]))

/-- SD_WAIT_READY (R243). -/
def execSdWaitReady (s : State) : Answer := .next (s.beginActs [.pollReady])

/-- SD_MODE_WORD (R244). -/
def execSdModeWord (mp : ModeParams) (s : State) : Answer :=
  match modeWord s.params mp with
  | none => .next (s.refuse .badOperand)
  | some w => .next (s.setRes (.u13 w))

/-! ### Command words of format SDCMR (R112, R113, R245) -/

/-- A command word handed to the controller: one write of FMC_SDCMR (R245, log 6). -/
def State.giveCommand (s : State) (w : Word) : State := s.beginActs [.write .sdcmr w]

/-- SDCMD_CLK (R236): clock configuration enable, MODE 001. -/
def execSdcmdClk (ctb2 ctb1 : Bool) (nrfs : BitVec 4) (mrd : BitVec 13) (s : State) : Answer :=
  .next (s.giveCommand (s.params.regMap.fields.sdcmr.word 1 ctb1 ctb2 nrfs mrd))

/-- SDCMD_PALL (R237): precharge all, MODE 010. -/
def execSdcmdPall (ctb2 ctb1 : Bool) (nrfs : BitVec 4) (mrd : BitVec 13) (s : State) : Answer :=
  .next (s.giveCommand (s.params.regMap.fields.sdcmr.word 2 ctb1 ctb2 nrfs mrd))

/-- SDCMD_AREF (R238): auto-refresh, MODE 011. -/
def execSdcmdAref (ctb2 ctb1 : Bool) (nrfs : BitVec 4) (mrd : BitVec 13) (s : State) : Answer :=
  .next (s.giveCommand (s.params.regMap.fields.sdcmr.word 3 ctb1 ctb2 nrfs mrd))

/-- SDCMD_LMR (R239): load mode register, MODE 100. -/
def execSdcmdLmr (ctb2 ctb1 : Bool) (nrfs : BitVec 4) (mrd : BitVec 13) (s : State) : Answer :=
  .next (s.giveCommand (s.params.regMap.fields.sdcmr.word 4 ctb1 ctb2 nrfs mrd))

end Sys2Proof.Machine
end

