-- ==== Sys2Proof/Machine/System.lean ====
section
/-! DEFINITION. System operations: CS_ENTER, CS_EXIT, RCC_FMC_ENABLE, RCC_FMC_RESET_PULSE, CLK_FREQ (46_system.md). -/

namespace Sys2Proof.Machine

/-- CS_ENTER (R330). -/
def execCsEnter (s : State) : Answer := .next (s.beginActs [.enter])

/-- CS_EXIT (R331). -/
def execCsExit (s : State) : Answer := .next (s.beginActs [.leave])

/-- RCC_FMC_ENABLE (R332). -/
def execRccFmcEnable (s : State) : Answer := .next (s.beginActs (setFieldActs .ahb3enr s.params.regMap.fields.fmcen 1))

/-- RCC_FMC_RESET_PULSE (R333): assert, then deassert. -/
def execRccFmcResetPulse (s : State) : Answer :=
  .next (s.beginActs (setFieldActs .ahb3rstr s.params.regMap.fields.fmcrst 1 ++
    setFieldActs .ahb3rstr s.params.regMap.fields.fmcrst 0))

/-- CLK_FREQ (R334). -/
def execClkFreq (s : State) : Answer := .next (s.setRes (.hz s.params.clkHz))

end Sys2Proof.Machine
end

