-- ==== Sys2Proof/Machine/Watch.lean ====
section
/-! DEFINITION. StopWatch: SW_NEW, SW_LAP, SW_LAP_TIME, SW_RESET, SW_ITER_NEXT (42_stopwatch.md, 10_state.md R39). -/

namespace Sys2Proof.Machine

/-- The instance named `h`, if SW_NEW has created it (R39). -/
def State.watch (s : State) (h : Word) : Option StopWatch := assocGet h.toNat s.watches

/-- Store the instance named `h`. -/
def State.setWatch (s : State) (h : Word) (w : StopWatch) : State := { s with watches := assocSet h.toNat w s.watches }

/-- Slot `i`: none if nothing has written it (R39). -/
def StopWatch.slot (w : StopWatch) (i : Nat) : Option Word := (w.samples[i]?).getD none

/-- A new session whose slot 0 holds the sample `c` (R180). -/
def newWatch (cap freq c : Word) : StopWatch :=
  { cap := cap.toNat, samples := some c :: List.replicate (cap.toNat - 1) none, cursor := 0, freq := freq, it := 1 }

/-- `lap()` with the sample `c` (R181): the last slot is overwritten once the storage is full. -/
def StopWatch.lap (w : StopWatch) (c : Word) : StopWatch :=
  let k := if w.cursor < w.cap - 1 then w.cursor + 1 else w.cursor
  { w with cursor := k, samples := w.samples.set k (some c) }

/-- `lap_time(n)` (R182). Slots 0 to the cursor are written (R183), so the last arm is never taken in a reachable state. -/
def StopWatch.lapTime (w : StopWatch) (n : Nat) : Option Duration :=
  if n = 0 ∨ n > w.cursor then none
  else
    match w.slot n, w.slot (n - 1) with
    | some b, some a => some ⟨.ticks ((b - a).setWidth 64), some w.freq⟩
    | _, _ => none

/-- `reset()` with the sample `c` (R184). -/
def StopWatch.restart (w : StopWatch) (c : Word) : StopWatch :=
  { w with cursor := 0, samples := w.samples.set 0 (some c), it := 1 }

/-- Move the iterator past a lap it has given (R185). -/
def StopWatch.advance (w : StopWatch) : StopWatch :=
  match w.lapTime w.it with
  | some _ => { w with it := w.it + 1 }
  | none => w

/-- SW_NEW (R180). -/
def execSwNew (h cap freq : Word) (s : State) : Answer :=
  if !hzOk freq then .next (s.refuse .badOperand)
  else if cap.toNat < 2 then .next (s.refuse .badOperand)
  else
    match s.watch h with
    | some _ => .next (s.refuse .handleInUse)
    | none => .next (s.sample.setWatch h (newWatch cap freq s.cyccnt))

/-- SW_LAP (R181). -/
def execSwLap (h : Word) (s : State) : Answer :=
  match s.watch h with
  | none => .next (s.refuse .noSuchHandle)
  | some w => .next (s.sample.setWatch h (w.lap s.cyccnt))

/-- SW_LAP_TIME (R182): the counter is not read. -/
def execSwLapTime (h n : Word) (s : State) : Answer :=
  match s.watch h with
  | none => .next (s.refuse .noSuchHandle)
  | some w => .next (s.setRes (.duration (w.lapTime n.toNat)))

/-- SW_RESET (R184). -/
def execSwReset (h : Word) (s : State) : Answer :=
  match s.watch h with
  | none => .next (s.refuse .noSuchHandle)
  | some w => .next (s.sample.setWatch h (w.restart s.cyccnt))

/-- SW_ITER_NEXT (R185). -/
def execSwIterNext (h : Word) (s : State) : Answer :=
  match s.watch h with
  | none => .next (s.refuse .noSuchHandle)
  | some w => .next ((s.setWatch h w.advance).setRes (.duration (w.lapTime w.it)))

end Sys2Proof.Machine
end

