-- ==== Sys2Proof/Machine/Dispatch.lean ====
section
/-! DEFINITION. The meaning of every operation and of every command word: one arm per constructor of `Instr`. -/

namespace Sys2Proof.Machine

def exec (i : Instr) (s : State) : Host.Outcome State Fault Refusal :=
  match i with
  | .ccNow => Sys2Proof.Machine.execCcNow s
  | .ccElapsed since => Sys2Proof.Machine.execCcElapsed since s
  | .ccEnable => Sys2Proof.Machine.execCcEnable s
  | .durToTicks d => Sys2Proof.Machine.execDurToTicks d s
  | .dlyTicks t => Sys2Proof.Machine.execDlyTicks t s
  | .dlyUs n => Sys2Proof.Machine.execDlyUs n s
  | .dlyMs n => Sys2Proof.Machine.execDlyMs n s
  | .dlySF32 sec => Sys2Proof.Machine.execDlySF32 sec s
  | .dlySF64 sec => Sys2Proof.Machine.execDlySF64 sec s
  | .dlyDuration d => Sys2Proof.Machine.execDlyDuration d s
  | .swNew h cap freq => Sys2Proof.Machine.execSwNew h cap freq s
  | .swLap h => Sys2Proof.Machine.execSwLap h s
  | .swLapTime h n => Sys2Proof.Machine.execSwLapTime h n s
  | .swReset h => Sys2Proof.Machine.execSwReset h s
  | .swIterNext h => Sys2Proof.Machine.execSwIterNext h s
  | .tcNanosToCycles ns clockFreq divisor subtract minimum => Sys2Proof.Machine.execTcNanosToCycles ns clockFreq divisor subtract minimum s
  | .tcRefreshCounter periodNs clockFreq divisor rowCount => Sys2Proof.Machine.execTcRefreshCounter periodNs clockFreq divisor rowCount s
  | .tcConvertSpec spec clockFreq divisor => Sys2Proof.Machine.execTcConvertSpec spec clockFreq divisor s
  | .sdBringup bank cfg => Sys2Proof.Machine.execSdBringup bank cfg s
  | .sdSendCmd bank mode nrfs mrd => Sys2Proof.Machine.execSdSendCmd bank mode nrfs mrd s
  | .sdWaitReady => Sys2Proof.Machine.execSdWaitReady s
  | .sdModeWord mp => Sys2Proof.Machine.execSdModeWord mp s
  | .ltSetTiming spec => Sys2Proof.Machine.execLtSetTiming spec s
  | .ltWindow layer hStart hStop vStart vStop => Sys2Proof.Machine.execLtWindow layer hStart hStop vStart vStop s
  | .ltWindowXywh layer x y w h => Sys2Proof.Machine.execLtWindowXywh layer x y w h s
  | .ltReload mode => Sys2Proof.Machine.execLtReload mode s
  | .ltReady => Sys2Proof.Machine.execLtReady s
  | .ltWaitReady => Sys2Proof.Machine.execLtWaitReady s
  | .ltBgcolor rgb => Sys2Proof.Machine.execLtBgcolor rgb s
  | .ltPolarity hs vs de pc => Sys2Proof.Machine.execLtPolarity hs vs de pc s
  | .ltPixelFormat layer pf => Sys2Proof.Machine.execLtPixelFormat layer pf s
  | .ltDefaultColor layer argb => Sys2Proof.Machine.execLtDefaultColor layer argb s
  | .ltConstAlpha layer a => Sys2Proof.Machine.execLtConstAlpha layer a s
  | .ltBlend layer bf1 bf2 => Sys2Proof.Machine.execLtBlend layer bf1 bf2 s
  | .ltColorKey layer fmt key => Sys2Proof.Machine.execLtColorKey layer fmt key s
  | .ltLineConfig layer widthPx bytesPp lines => Sys2Proof.Machine.execLtLineConfig layer widthPx bytesPp lines s
  | .ltFbAddr layer addr => Sys2Proof.Machine.execLtFbAddr layer addr s
  | .ltLayerEnable layer => Sys2Proof.Machine.execLtLayerEnable layer s
  | .ltDitherEnable => Sys2Proof.Machine.execLtDitherEnable s
  | .ltEnable => Sys2Proof.Machine.execLtEnable s
  | .ltSetup cfg => Sys2Proof.Machine.execLtSetup cfg s
  | .ltRgb565To888 c => Sys2Proof.Machine.execLtRgb565To888 c s
  | .csEnter => Sys2Proof.Machine.execCsEnter s
  | .csExit => Sys2Proof.Machine.execCsExit s
  | .rccFmcEnable => Sys2Proof.Machine.execRccFmcEnable s
  | .rccFmcResetPulse => Sys2Proof.Machine.execRccFmcResetPulse s
  | .clkFreq => Sys2Proof.Machine.execClkFreq s
  | .sdcmdClk ctb2 ctb1 nrfs mrd => Sys2Proof.Machine.execSdcmdClk ctb2 ctb1 nrfs mrd s
  | .sdcmdPall ctb2 ctb1 nrfs mrd => Sys2Proof.Machine.execSdcmdPall ctb2 ctb1 nrfs mrd s
  | .sdcmdAref ctb2 ctb1 nrfs mrd => Sys2Proof.Machine.execSdcmdAref ctb2 ctb1 nrfs mrd s
  | .sdcmdLmr ctb2 ctb1 nrfs mrd => Sys2Proof.Machine.execSdcmdLmr ctb2 ctb1 nrfs mrd s

end Sys2Proof.Machine
end

