-- ==== Sys2Proof/Machine/Step.lean ====
section
/-! DEFINITION. One step of the machine, and the host's way to make the next step run a given instruction. -/

namespace Sys2Proof.Machine

/-- One step of one agent (00_scope.md R8, R9). -/
def step (s : State) : Host.Outcome State Fault Refusal := stepWith exec s

/-- `s`, with the host about to invoke the instruction whose bits are `w`: the next step is the host's, the host is
between two operations, and its next interaction hands the block that instruction (log 3, 6). -/
def State.withFetchWord (s : State) (nbits w : Nat) : State :=
  { s with
    sched := .host :: s.sched
    program :=
      (if isCommandFormat nbits then .command (BitVec.ofNat 32 w) else .op [.bytes (tableBytes w)]) :: s.program
    ctx := Ctx.idle
    irq := none
    faulted := none
    refused := none }

end Sys2Proof.Machine
end

