-- ==== Sys2Proof/Safety.lean ====
section
/-! DEFINITION. What a run of the machine is, when it is safe and when it ends (10_state.md R34, 70_reset_and_hazards.md R389),
how many ticks it has, weak fairness (00_scope.md R9), and the invariants that every step keeps. -/

namespace Sys2Proof.Machine

/-! ### Runs -/

/-- No fault and no refusal is recorded: the run so far is successful (R34). -/
def State.unmarked (s : State) : Prop := s.faulted = none ∧ s.refused = none

/-- What R389 asks of the state in which a run ends: the host has returned from its last operation, no activation is in
progress, and no mark is set. It may hold again later in a run; the run ends at the first such state (`EndsIn`). -/
def State.final (s : State) : Prop := s.program = [] ∧ s.ctx.todo = [] ∧ s.irq = none ∧ s.unmarked

/-- The agent whose step comes next (R9). -/
def State.mover (s : State) : Mover := s.takeMover.1

/-- `k` steps of the machine. -/
def runFor (k : Nat) (s : State) : Answer := Host.Core.run Sys2Proof.core k s

/-- The run from `s` ends after `k` steps, and `t` is its final state (R389): the first state that is as `State.final` says.
A run that hangs, faults or refuses before it has no final state. -/
def EndsIn (s : State) (k : Nat) (t : State) : Prop :=
  runFor k s = .next t ∧ t.final ∧ ∀ j < k, ∀ u, runFor j s = .next u → ¬ u.final

/-- The next step is a TICK step (10_state.md R31): the counter advances. -/
def State.ticksNext (s : State) : Bool := s.params.regMap.aligned && s.mover == .tick && s.counterEnabled

/-- How many TICK steps the next `k` steps have. -/
def ticksIn : Nat → State → Nat
  | 0, _ => 0
  | k + 1, s =>
    match step s with
    | .next t => (if s.ticksNext then 1 else 0) + ticksIn k t
    | .fault _ => 0
    | .refused _ => 0

/-- An infinite run. -/
def IsRun (f : Nat → State) : Prop := ∀ k, step (f k) = .next (f (k + 1))

/-- Weak fairness of one agent's step (R9): it is disabled again and again, or it is taken again and again. -/
def FairFor (enabled : State → Bool) (m : Mover) (f : Nat → State) : Prop :=
  ∀ k, ∃ j, k ≤ j ∧ (enabled (f j) = false ∨ (f j).mover = m)

/-- Weak fairness of a run (R9): of TICK, of FMC and of the two steps of LTDC; a step whose agent does not respond is never
enabled. IRQ has none (60_exceptions.md R344). The host's steps are the program's own (log 20). -/
def Fair (f : Nat → State) : Prop :=
  FairFor State.counterEnabled .tick f ∧ FairFor State.fmcEnabled .fmc f ∧
    FairFor State.reloadEnabled .ltdcReload f ∧ FairFor State.vblankEnabled .ltdcVBlank f

/-! ### Schedules used by statements -/

/-- A host step, then a step of the FMC agent, then a tick. -/
def State.sdramRound (s : State) : State := s.continueOp.fmcStep.tickStep

/-- A host step, then an immediate reload if one is requested. -/
def State.ltdcRound (s : State) : State := s.continueOp.ltdcReloadStep

/-- `f`, `n` times. -/
def iterState (f : State → State) : Nat → State → State
  | 0, s => s
  | n + 1, s => iterState f n (f s)

/-! ### States that statements name -/

/-- A delay of `t` ticks after its first host step (41_delay.md R161, R162): at its first poll, or over if `t = 0`. -/
def State.delayBegun (s : State) (t : DWord) : State :=
  { s.regRead .dwtCyccnt with
    ctx :=
      if t = 0 then Ctx.idle
      else { todo := [⟨.delayPoll, none, none⟩], wait := some ⟨s.cyccnt, t, BitVec.ofNat 32 (min t.toNat 2147483647)⟩ } }

/-- The state with a register of layer `k`'s shadow copy changed by `f` (10_state.md R53). -/
def State.withShadow (s : State) (k : Byte) (f : LayerRegs → LayerRegs) : State :=
  s.setLayer k.toNat { s.layer k.toNat with shadow := f (s.layer k.toNat).shadow }

/-- The host's position: the running code's, or the one that interrupt code has preempted (60_exceptions.md R347). -/
def State.hostCtx (s : State) : Ctx :=
  match s.irq with
  | none => s.ctx
  | some a => a.saved

/-- Where the fields of the registers stand in this machine (00_scope.md R3). -/
abbrev State.fields (s : State) : FieldMap := s.params.regMap.fields

/-- `r` is `n` rounded to `p` significant bits, to nearest, ties to even (40_cycle_clock.md R149). -/
def IsRounded (p n r : Nat) : Prop :=
  (n < 2 ^ p → r = n) ∧
  (2 ^ p ≤ n → let u := 2 ^ (Nat.log2 n + 1 - p)
    u ∣ r ∧ 2 * r ≤ 2 * n + u ∧ 2 * n ≤ 2 * r + u ∧ (2 * r = 2 * n + u ∨ 2 * n = 2 * r + u → r / u % 2 = 0))

/-- The pair word `{hi, lo}` of 30_encoding.md R120 in the default map. -/
def pairOf (hi lo : Nat) : Word := BitVec.ofNat 32 (hi * 65536 + lo)

/-! ### Invariants -/

/-- No bit outside `mask` is set. -/
def within (mask w : Word) : Bool := w &&& ~~~mask == 0

/-- One copy of a layer has no reserved bit set (10_state.md R53). -/
def layerRegsOk (p : Params) (l : LayerRegs) : Bool := LayerReg.all.all fun r => within (p.mask (.layer 1 r)) (l.get r)

/-- The FMC registers are at their reset values, nothing is pending and the controller is not busy (R57). -/
def State.fmcAtReset (s : State) : Bool :=
  [.sdcr1, .sdcr2, .sdtr1, .sdtr2, .sdcmr, .sdrtr].all (fun r => s.regHeld r == s.params.resetWord r) &&
    !s.busy && s.fmcPending.isNone

/-- The registers with no bit but those that a write stores. -/
def plainRegs : List Reg := [.sdcr1, .sdcr2, .sdtr1, .sdtr2, .sdrtr, .sscr, .bpcr, .awcr, .twcr, .srcr, .bccr]

/-- What holds of the device registers: reserved bits are 0 (R41, R42, R44, R50 to R53), outside its read-write fields GCR
is as at reset: the dither widths read 010 each (R49), BUSY is 1 exactly while a command is pending (R46), and while the
reset line is asserted the FMC registers are at their reset values (44_sdram_sequencer.md R226). -/
def State.regInv (s : State) : Bool :=
  plainRegs.all (fun r => within (s.params.writeMask r) (s.regHeld r)) &&
    (s.gcr &&& ~~~s.params.writeMask .gcr) == (s.params.resetWord .gcr &&& ~~~s.params.writeMask .gcr) &&
    s.layers.all (fun l => layerRegsOk s.params l.shadow && layerRegsOk s.params l.active) &&
    (s.busy == s.fmcPending.isSome) && (!s.fmcrst || s.fmcAtReset)

/-- What holds of a StopWatch (R39, 42_stopwatch.md R183): one slot per unit of capacity, the cursor below the capacity,
slots 0 to the cursor written. -/
def watchOk (w : StopWatch) : Bool :=
  decide (2 ≤ w.cap) && w.samples.length == w.cap && decide (w.cursor + 1 ≤ w.cap) &&
    (w.samples.take (w.cursor + 1)).all Option.isSome && w.freq != 0 && decide (1 ≤ w.it)

/-- The SDRAM bytes, the StopWatch instances and the host's names are in canonical form, and every instance is as R39
says. -/
def State.dataInv (s : State) : Bool :=
  memoryWf s.sdram && assocWf s.watches && assocWf s.names && s.watches.all fun p => watchOk p.2

/-- A position between two operations is idle, LT_SETUP_STEP is the sub-operation of the next host step (R32, 45_ltdc.md
R300), and the wait registers exist only while a delay is polling (R38). -/
def ctxOk (c : Ctx) : Bool :=
  (!c.todo.isEmpty || c == Ctx.idle) && c.setupStep == (c.todo.head?.bind HostStep.sub) &&
    (c.wait.isNone || (c.todo.head?.map HostStep.act) == some .delayPoll)

/-- A delay of ticks is followed by its polls. -/
def delaysPolled : List HostStep → Bool
  | [] => true
  | h :: rest =>
    (match h.act with
    | .delayStart t => t == 0 || (rest.head?.map HostStep.act) == some .delayPoll
    | _ => true) && delaysPolled rest

/-- What holds of the running code's position and of the host's, when interrupt code has preempted it. -/
def State.ctxInv (s : State) : Bool :=
  ctxOk s.ctx && delaysPolled s.ctx.todo &&
    (match s.irq with
    | none => true
    | some a => ctxOk a.saved && delaysPolled a.saved.todo)

/-- The phase after a phase (44_sdram_sequencer.md R221); none follows LIVE. -/
def SeqPhase.succ : SeqPhase → Option SeqPhase
  | .idle => some .clockEnable
  | .clockEnable => some .geometry
  | .geometry => some .timing
  | .timing => some .cmdClk
  | .cmdClk => some .cmdPall
  | .cmdPall => some .cmdAref
  | .cmdAref => some .cmdLmr
  | .cmdLmr => some .refresh
  | .refresh => some .live
  | .live => none

/-- The phase that a host step, or the steps it branches to, enters (R221, R224). -/
def HostStep.enters (h : HostStep) : Option SeqPhase :=
  match h.act with
  | .clockBranch => some .geometry
  | .enterBringup _ => some .clockEnable
  | _ => h.phase

/-- The steps still to be made take the sequencer from phase `p` through the phases in order, to IDLE (no bring-up has run)
or LIVE (R221); the critical section is left only after the last of them, and once (R248). -/
def phasesOk : SeqPhase → List HostStep → Bool
  | p, [] => p == .idle || p == .live
  | p, h :: rest =>
    (match h.act with
    | .enterBringup _ => false
    | .clockBranch => h.phase.isNone
    | .leave => rest.all (fun g => g.enters.isNone && g.act != .leave)
    | _ => true) &&
    (match h.enters with
    | none => phasesOk p rest
    | some q => p.succ == some q && phasesOk q rest)

/-- Some step still to be made enters a phase: a bring-up is in progress. -/
def bringingUp (todo : List HostStep) : Bool := todo.any fun h => h.enters.isSome

/-- Some step still to be made leaves a critical section that the operation has entered: CS_EXIT of SD_BRINGUP, which is its last
step, or of SD_SEND_CMD (R242, R248). -/
def leavesLater (todo : List HostStep) : Bool := todo.any fun h => h.act == .leave

/-- What holds of the sequencer (R221, R248, R250; 10_state.md R48): interrupts are masked until the critical section is
left, which a bring-up in progress has still to do, and the code that interrupts preempted is in none. -/
def State.seqInv (s : State) : Bool :=
  phasesOk s.seqPhase s.ctx.todo && (!bringingUp s.ctx.todo || leavesLater s.ctx.todo) &&
    (!leavesLater s.ctx.todo || s.imask) &&
    (match s.irq with
    | none => true
    | some a => phasesOk .idle a.saved.todo && !bringingUp a.saved.todo && !leavesLater a.saved.todo) &&
    (s.seqBank.isNone == (s.seqPhase == .idle)) && (!s.seqResetAfterLive || s.seqPhase == .live)

/-- A host step that does not write CYCCNT. -/
def HostStep.keepsCount (h : HostStep) : Bool :=
  match h.act with
  | .write .dwtCyccnt _ => false
  | .writeMod .dwtCyccnt _ _ => false
  | _ => true

/-- An item of the interrupt program that is no raw write of CYCCNT. -/
def IrqItem.keepsCount : IrqItem → Bool
  | .regWrite .dwtCyccnt _ => false
  | _ => true

/-- Nothing that is still to run is a raw write of CYCCNT (R31: no operation writes it; log 18). -/
def State.countInv (s : State) : Bool :=
  s.ctx.todo.all HostStep.keepsCount && s.params.irqProgram.all IrqItem.keepsCount &&
    (match s.irq with
    | none => true
    | some a => a.saved.todo.all HostStep.keepsCount && a.rest.all IrqItem.keepsCount)

end Sys2Proof.Machine
end

