-- ==== Sys2Proof/WellFormed.lean ====
section
/-! DEFINITION. Which operand records are of the type 30_encoding.md R101 gives them. An operation whose record is not is
refused with BadOperand before it reads or writes anything (R107). The further legal sets that an operation's own rule
gives are checked by its meaning. -/

namespace Sys2Proof

open Machine

/-- The operand record of `i` is of the type R101 and R105 give it, in a machine with `n` layers. -/
def Instr.wf (n : Nat) (fv : SdramFieldValues) : Instr → Bool
  | .ccNow => true
  | .ccElapsed _ => true
  | .ccEnable => true
  | .durToTicks d => durationOk d
  | .dlyTicks _ => true
  | .dlyUs _ => true
  | .dlyMs _ => true
  | .dlySF32 _ => true
  | .dlySF64 _ => true
  | .dlyDuration d => durationOk d
  | .swNew _ _ f => hzOk f
  | .swLap _ => true
  | .swLapTime _ _ => true
  | .swReset _ => true
  | .swIterNext _ => true
  | .tcNanosToCycles _ _ _ _ _ => true
  | .tcRefreshCounter _ _ _ _ => true
  | .tcConvertSpec t f _ => timingSpecOk fv t && hzOk f
  | .sdBringup b c => bankOk b && boolOk c.geometry.writeProtect && boolOk c.geometry.readBurst
  | .sdSendCmd b m r d => bankOk b && u3Ok m && u4Ok r && u13Ok d
  | .sdWaitReady => true
  | .sdModeWord mp => modeConfigOk mp.mode && casOk mp.casLatency
  | .ltSetTiming _ => true
  | .ltWindow l _ _ _ _ => layerOk n l
  | .ltWindowXywh l _ _ _ _ => layerOk n l
  | .ltReload m => reloadModeOk m
  | .ltReady => true
  | .ltWaitReady => true
  | .ltBgcolor rgb => u24Ok rgb
  | .ltPolarity hs vs de pc => boolOk hs && boolOk vs && boolOk de && boolOk pc
  | .ltPixelFormat l pf => layerOk n l && u3Ok pf
  | .ltDefaultColor l _ => layerOk n l
  | .ltConstAlpha l _ => layerOk n l
  | .ltBlend l b1 b2 => layerOk n l && u3Ok b1 && u3Ok b2
  | .ltColorKey l fmt key => layerOk n l && boolOk fmt && u24Ok key
  | .ltLineConfig l _ _ _ => layerOk n l
  | .ltFbAddr l _ => layerOk n l
  | .ltLayerEnable l => layerOk n l
  | .ltDitherEnable => true
  | .ltEnable => true
  | .ltSetup c => ltdcConfigOk n c
  | .ltRgb565To888 _ => true
  | .csEnter => true
  | .csExit => true
  | .rccFmcEnable => true
  | .rccFmcResetPulse => true
  | .clkFreq => true
  | .sdcmdClk _ _ _ _ => true
  | .sdcmdPall _ _ _ _ => true
  | .sdcmdAref _ _ _ _ => true
  | .sdcmdLmr _ _ _ _ => true

end Sys2Proof
end

