-- ==== Sys2Proof/Certificates/Slice0/Obligations.lean ====
section
/-! DEFINITION. The statements for the provers, from the numbered rules of spec/. -/

section

open Sys2Proof Sys2Proof.Machine

/-! ### Encoding -/

/-- R105, R112: words written out by hand from the opcode map and the command-word layout decode to their instructions. -/
def Obligations.DecodeKnownWords : Prop :=
  decode [0x01] = .ok (.ccNow, []) ∧
  decode [0x02, 0xF0, 0xFF, 0xFF, 0xFF] = .ok (.ccElapsed 0xFFFFFFF0, []) ∧
  decode [0x10, 0x0A, 0, 0, 0x80, 0, 0, 0, 0] = .ok (.dlyTicks 0x8000000A, []) ∧
  decode [0x22, 1, 0, 0, 0, 2, 0, 0, 0] = .ok (.swLapTime 1 2, []) ∧
  decode [0x41, 2, 3, 7, 0, 0] = .ok (.sdSendCmd 2 3 7 0, []) ∧
  decode [0x5E, 1, 0, 0, 0, 0xD0] = .ok (.ltFbAddr 1 0xD0000000, []) ∧
  decode [0x71] = .ok (.csExit, []) ∧
  decodeCommand 0x000000FB = some (.sdcmdAref true true 7 0) ∧
  decodeCommand 0x00066214 = some (.sdcmdLmr false true 0 0x331) ∧
  decode [0x05] = .error .reservedOpcode

/-- R100, R105, R108: the encoding of every operation decodes to that operation, and the decoder takes exactly its bytes.
The byte layout of a record is the model's (log 4). -/
def Obligations.EncodeThenDecode : Prop :=
  ∀ (i : Instr) (rest : List Byte), encodable i = true → decode (encode i ++ rest) = .ok (i, rest)

/-- R100, R108: there is one spelling of every operation: what the decoder reads is what the encoder writes (log 4, 5). -/
def Obligations.DecodeThenEncode : Prop :=
  ∀ (bs rest : List Byte) (i : Instr), decode bs = .ok (i, rest) → encodable i = true ∧ bs = encode i ++ rest

/-- R112, R113: the four command words the block issues are read back field by field, and no other word is read as one. -/
def Obligations.CommandWordsRoundTrip : Prop :=
  (∀ (i : Instr) (w : Word), commandOf i = some w → decodeCommand w = some i) ∧
  (∀ (i : Instr) (w : Word), decodeCommand w = some i → commandOf i = some w) ∧
  (∀ w : Word, decodeCommand w = none ↔ w.toNat % 8 ∉ [1, 2, 3, 4] ∨ 2 ^ 22 ≤ w.toNat)

/-- R106: the reserved opcodes, and the refusal of an operation that begins with one. -/
def Obligations.ReservedOpcodesRefused : Prop :=
  ∀ (b : Byte) (r : List Byte),
    (decode (b :: r) = .error .reservedOpcode ↔
      b = 0 ∨ (0x05 ≤ b ∧ b ≤ 0x0F) ∨ (0x16 ≤ b ∧ b ≤ 0x1F) ∨ (0x25 ≤ b ∧ b ≤ 0x2F) ∨ (0x33 ≤ b ∧ b ≤ 0x3F) ∨
        (0x44 ≤ b ∧ b ≤ 0x4F) ∨ (0x64 ≤ b ∧ b ≤ 0x6F) ∨ 0x75 ≤ b) ∧
    ∀ (s : State) (p : List HostAct), s.hostEnabled = true → s.ctx.todo = [] →
      s.program = .op [.bytes (b :: r)] :: p → decode (b :: r) = .error .reservedOpcode →
      hostStepWith exec s = .next ({ s with program := p }.refuse .reservedOpcode)

/-! ### Steps -/

/-- R10, R388: when it is the host's turn and its next interaction is an operation whose bytes decode to `i`, or a command
word that reads as `i`, the step is `exec i`, with the turn and the interaction taken. -/
def Obligations.StepRunsDecoded : Prop :=
  ∀ (s : State) (ms : List Mover) (rest : List HostAct) (i : Instr),
    s.params.regMap.aligned = true → s.hostEnabled = true → s.ctx.todo = [] → s.sched = .host :: ms →
    (∀ (parts : List OpPart) (bytes tail : List Byte), s.program = .op parts :: rest →
      s.partBytes parts = some bytes → decode bytes = .ok (i, tail) →
      step s = exec i { s with sched := ms, program := rest }) ∧
    (∀ w : Word, s.program = .command w :: rest → decodeCommand w = some i →
      step s = exec i { s with sched := ms, program := rest })

/-- R9, R10, R84, R87: a host turn in the middle of an operation is the operation's next host step; the other agents' turns
are their own steps, at any point between two host steps. That a register map with an unaligned address is refused by
EVERY STEP, before anything runs, is the model's choice for R83's refusal at configuration (log 8). -/
def Obligations.StepIsOneAgentsStep : Prop :=
  ∀ (s : State) (ms : List Mover),
    (s.params.regMap.aligned = false → step s = .next (s.refuse .badRegMap)) ∧
    (s.params.regMap.aligned = true →
      (s.sched = .host :: ms → s.hostEnabled = true → s.ctx.todo ≠ [] →
        step s = .next { s with sched := ms }.continueOp) ∧
      (s.sched = .tick :: ms → step s = .next { s with sched := ms }.tickStep) ∧
      (s.sched = .fmc :: ms → step s = .next { s with sched := ms }.fmcStep) ∧
      (s.sched = .ltdcReload :: ms → step s = .next { s with sched := ms }.ltdcReloadStep) ∧
      (s.sched = .ltdcVBlank :: ms → step s = .next { s with sched := ms }.ltdcVBlankStep) ∧
      (s.sched = .irq :: ms → step s = irqStepWith exec { s with sched := ms }))

/-- R107: an operation whose record is not of its type is refused with BadOperand, and nothing else happens. What the model
counts among these: a Duration of ticks with a present frequency of 0 (log 16), the operand bytes of SD_MODE_WORD (log 21),
SD_BRINGUP's bank and Bool operands before SEQ_PHASE (log 26), LT_SETUP's before any value that does not fit (log 15). -/
def Obligations.IllTypedOperandRefused : Prop :=
  ∀ (i : Instr) (s : State), i.wf s.numLayers s.params.fieldValues = false → exec i s = .next (s.refuse .badOperand)

/-- R34, R343: a step that faults or refuses writes one mark and nothing else, in the first host step of an operation and in
every later one; no step clears or replaces a mark; after one neither the host nor interrupt code has a step. R389: a run
has at most one final state, the first that is final, and one with a mark has none. -/
def Obligations.StopsAndMarks : Prop :=
  (∀ (s t : State), s.stopped = false → t.stopped = true → (∃ i, exec i s = .next t) ∨ t = s.continueOp →
    (∃ r, t = s.refuse r) ∨ (∃ f, t = s.raiseFault f)) ∧
  (∀ (s t : State), step s = .next t →
    (∀ f, s.faulted = some f → t.faulted = some f) ∧ (∀ r, s.refused = some r → t.refused = some r)) ∧
  (∀ s : State, s.stopped = true → hostStepWith exec s = .next s ∧ irqStepWith exec s = .next s) ∧
  (∀ (s t : State) (k : Nat), s.stopped = true → ¬ EndsIn s k t) ∧
  (∀ (s t t' : State) (k k' : Nat), EndsIn s k t → EndsIn s k' t' → k = k' ∧ t = t')

/-- R56: the parameters are constant; 10_state.md R47, R54: the two logs only grow, and only by the FMC's and the LTDC's
steps. -/
def Obligations.ParametersConstantLogsGrow : Prop :=
  ∀ (s t : State), step s = .next t →
    t.params = s.params ∧ s.sdramLog <+: t.sdramLog ∧ s.ltdcLog <+: t.ltdcLog ∧
    (s.mover ≠ .fmc → t.sdramLog = s.sdramLog) ∧
    (s.mover ≠ .ltdcReload → s.mover ≠ .ltdcVBlank → t.ltdcLog = s.ltdcLog)

/-- R81, R160: no host step of an operation touches the SDRAM windows, a log, an active layer register, the parameters or the
host's program: at every address the byte read after is the byte read before. No operation writes the counter's value. -/
def Obligations.OperationsKeepMemory : Prop :=
  ∀ (s t : State), ((∃ i, exec i s = .next t) ∨ t = s.continueOp) →
    (∀ a, t.sdramByte a = s.sdramByte a) ∧ t.sdram = s.sdram ∧ (s.countInv = true → t.cyccnt = s.cyccnt) ∧ t.sdramLog = s.sdramLog ∧
    t.ltdcLog = s.ltdcLog ∧ t.params = s.params ∧ t.program = s.program ∧ t.sched = s.sched ∧ t.irq = s.irq ∧
    t.layers.map Layer.active = s.layers.map Layer.active

/-! ### Reset and invariants -/

/-- R57, R370: the state after reset, for every draw of CYCCNT. -/
def Obligations.ResetValues : Prop :=
  ∀ c : Word, let s := State.resetWith c
    s.cyccnt = c ∧ s.trcena = false ∧ s.cyccntena = false ∧ s.counterEnabled = false ∧ s.res = none ∧
    s.faulted = none ∧ s.refused = none ∧ s.imask = false ∧ s.csStack = [] ∧ s.ctx.wait = none ∧
    (∀ h, s.watch h = none) ∧ s.fmcen = false ∧ s.fmcrst = false ∧ s.sdcr1 = 0x000002D0 ∧ s.sdcr2 = 0x000002D0 ∧
    s.sdtr1 = 0x0FFFFFFF ∧ s.sdtr2 = 0x0FFFFFFF ∧ s.sdcmr = 0 ∧ s.sdrtr = 0 ∧ s.busy = false ∧
    s.fmcPending = none ∧ s.sdramLog = [] ∧ s.seqPhase = .idle ∧ s.seqBank = none ∧ s.seqResetAfterLive = false ∧
    s.gcr = 0x00002220 ∧ s.sscr = 0 ∧ s.bpcr = 0 ∧ s.awcr = 0 ∧ s.twcr = 0 ∧ s.bccr = 0 ∧ s.srcr = 0 ∧
    s.layers.length = 2 ∧
    (∀ l ∈ s.layers, ∀ r, l.shadow.get r = (match r with | .cacr => 0xFF | .bfcr => 0x00000607 | _ => 0) ∧
      l.active.get r = l.shadow.get r) ∧
    s.ctx.setupStep = none ∧ s.ltdcLog = []

/-- The invariants hold at reset, for every draw, every number of layers and all parameters; `countInv` where the interrupt
program is no raw write of CYCCNT. -/
def Obligations.ResetMeetsInvariants : Prop :=
  ∀ (p : Params) (n : Nat) (c : Word), let s := State.resetFor p n c
    s.regInv = true ∧ s.dataInv = true ∧ s.ctxInv = true ∧ s.seqInv = true ∧
    (p.irqProgram.all IrqItem.keepsCount = true → s.countInv = true)

/-- R41, R42, R44, R46, R49 to R53, R226: every step keeps the reserved bits of the device registers 0 (of all but FMC_SDCMR,
which stores the whole word written: log 30), the read-only dither widths, BUSY equal to 'a command is pending', and the
FMC registers at reset while the reset line is asserted. That CRE of FMC_SDRTR stays 0 with them is log 22. -/
def Obligations.StepKeepsRegisterInvariant : Prop :=
  ∀ (s t : State), s.regInv = true → step s = .next t → t.regInv = true

/-- R39, R183: every step keeps the SDRAM bytes and the StopWatch instances in canonical form, and in every instance the
cursor below the capacity and slots 0 to the cursor written. -/
def Obligations.StepKeepsDataInvariant : Prop :=
  ∀ (s t : State), s.dataInv = true → step s = .next t → t.dataInv = true

/-- R32, R38, R300: every step keeps the running code's position and the preempted host's as they must be: idle between two
operations, the wait registers only while a delay polls, LT_SETUP_STEP the sub-operation of the next host step. -/
def Obligations.StepKeepsPositionInvariant : Prop :=
  ∀ (s t : State), s.ctxInv = true → step s = .next t → t.ctxInv = true

/-- R221, R248, R250: SEQ_PHASE moves only to the next phase of the fixed order, never skips one, never goes back and never
leaves LIVE; while a bring-up is in progress interrupts are masked and no activation begins, until its last step, CS_EXIT:
as long as the step that leaves a critical section is to be made interrupts are masked and no activation begins, and a
bring-up that has phases to enter has that step to make after them. -/
def Obligations.PhasesInOrder : Prop :=
  ∀ (s t : State), s.seqInv = true → step s = .next t →
    t.seqInv = true ∧ (t.seqPhase = s.seqPhase ∨ s.seqPhase.succ = some t.seqPhase) ∧
    (s.seqPhase = .live → t.seqPhase = .live) ∧
    (bringingUp t.ctx.todo = true → t.imask = true) ∧
    (bringingUp t.ctx.todo = true → leavesLater t.ctx.todo = true) ∧
    (leavesLater t.ctx.todo = true → t.imask = true) ∧
    (leavesLater s.ctx.todo = true → s.irq = none → t.irq = none) ∧
    (t.seqPhase ≠ .idle → t.seqPhase ≠ .live → bringingUp t.ctx.todo = true) ∧
    (bringingUp s.ctx.todo = true → s.irq = none → t.irq = none)

/-! ### CycleClock -/

/-- R31, R36, R140 to R142: CC_NOW, CC_ELAPSED, and the TICK step whose count they read. -/
def Obligations.CounterReadings : Prop :=
  ∀ (s : State) (since : Word),
    encode .ccNow = [0x01] ∧ (encode (.ccElapsed since)).head? = some 0x02 ∧
    exec .ccNow s = .next { s.regRead .dwtCyccnt with res := some (.u32 s.cyccnt) } ∧
    exec (.ccElapsed since) s = .next { s.regRead .dwtCyccnt with res := some (.u32 (s.cyccnt - since)) } ∧
    (s.cyccnt - since).toNat = (s.cyccnt.toNat + 2 ^ 32 - since.toNat) % 2 ^ 32 ∧
    (s.trcena = true → s.cyccntena = true → s.tickStep = { s with cyccnt := BitVec.ofNat 32 (s.cyccnt.toNat + 1) }) ∧
    (s.trcena = false ∨ s.cyccntena = false → s.tickStep = s)

/-- R144: CC_ENABLE, four host steps. -/
def Obligations.CcEnableResult : Prop :=
  ∀ s : State, s.params.layoutOk = true → encode .ccEnable = [0x03] ∧ ∃ t, exec .ccEnable s = .next t ∧
    (∀ k < 3, (t.continueFor k).ctx.todo ≠ []) ∧
    t.continueFor 3 =
      { (s.regRead .demcr).regRead .dwtCtrl with trcena := true, cyccntena := true, ctx := Ctx.idle }

/-- The wraparound law, which the spec derives from R31 and R142 (its R143): over any run in which nothing is a raw write of
CYCCNT (log 18), the counter moves by the number of TICK steps, and CC_ELAPSED of an earlier reading gives that number
modulo 2^32. -/
def Obligations.WraparoundLaw : Prop :=
  ∀ (s t : State) (k : Nat), s.countInv = true → runFor k s = .next t →
    t.countInv = true ∧ t.cyccnt = s.cyccnt + BitVec.ofNat 32 (ticksIn k s) ∧
    (∃ v : Word, exec (.ccElapsed s.cyccnt) t = .next { t.regRead .dwtCyccnt with res := some (.u32 v) } ∧
      v.toNat = ticksIn k s % 2 ^ 32 ∧ (v.toNat = ticksIn k s ↔ ticksIn k s < 2 ^ 32))

/-- R146 to R149: DUR_TO_TICKS, form by form. A present frequency of 0 is BadOperand whatever the form: that reading of R146
beside R147's corner case is the model's (log 16). -/
def Obligations.DurToTicksResult : Prop :=
  ∀ (s : State) (f : Word) (fo : Option Word), f ≠ 0 → fo ≠ some 0 →
    (∀ t, exec (.durToTicks ⟨.ticks t, fo⟩) s = .next { s with res := some (.okTicks t) }) ∧
    (∀ n, exec (.durToTicks ⟨.nanos n, none⟩) s = .next { s with res := some .errNoFrequency }) ∧
    (∀ x, exec (.durToTicks ⟨.secs32 x, none⟩) s = .next { s with res := some .errNoFrequency }) ∧
    (∀ x, exec (.durToTicks ⟨.secs64 x, none⟩) s = .next { s with res := some .errNoFrequency }) ∧
    (∀ n : DWord, let q := n.toNat * f.toNat / 10 ^ 9
      exec (.durToTicks ⟨.nanos n, some f⟩) s =
        .next (if q < 2 ^ 64 then { s with res := some (.okTicks (BitVec.ofNat 64 q)) } else s.refuse .overflow)) ∧
    (∀ x t, binary32.secsToTicks x.toNat f.toNat = .ok t →
      exec (.durToTicks ⟨.secs32 x, some f⟩) s = .next { s with res := some (.okTicks t) }) ∧
    (∀ x t, binary64.secsToTicks x.toNat f.toNat = .ok t →
      exec (.durToTicks ⟨.secs64 x, some f⟩) s = .next { s with res := some (.okTicks t) }) ∧
    (∀ x r, binary32.secsToTicks x.toNat f.toNat = .error r →
      exec (.durToTicks ⟨.secs32 x, some f⟩) s = .next (s.refuse r)) ∧
    (∀ x r, binary64.secsToTicks x.toNat f.toNat = .error r →
      exec (.durToTicks ⟨.secs64 x, some f⟩) s = .next (s.refuse r)) ∧
    (∀ form, exec (.durToTicks ⟨form, some 0⟩) s = .next (s.refuse .badOperand))

/-- R149: the conversion of seconds to ticks in binary32 and binary64. `roundNearestEven` is the one rounding to nearest,
ties to even; a value of sign, exponent `e` and fraction `m` times the rounded frequency is rounded once and truncated;
a product that is infinite is BadOperand, one of 2^64 or more Overflow; NaN and plus infinity are BadOperand, a negative
number NegativeDuration, minus zero gives 0 ticks. Minus infinity as NegativeDuration is the model's reading (log 16). -/
def Obligations.RoundsToNearestEven : Prop :=
  (∀ p n r : Nat, 1 ≤ p → (IsRounded p n r ↔ r = roundNearestEven p n)) ∧
  (∀ e m f rf P : Nat, e < 255 → m < 2 ^ 23 → IsRounded 24 f rf →
    IsRounded 24 ((if e = 0 then m else (2 ^ 23 + m) * 2 ^ (e - 1)) * rf) P →
    binary32.secsToTicks (e * 2 ^ 23 + m) f =
      (if 2 ^ (128 + 149) ≤ P then .error .badOperand else if 2 ^ (64 + 149) ≤ P then .error .overflow
       else .ok (BitVec.ofNat 64 (P / 2 ^ 149)))) ∧
  (∀ e m f rf P : Nat, e < 2047 → m < 2 ^ 52 → IsRounded 53 f rf →
    IsRounded 53 ((if e = 0 then m else (2 ^ 52 + m) * 2 ^ (e - 1)) * rf) P →
    binary64.secsToTicks (e * 2 ^ 52 + m) f =
      (if 2 ^ (1024 + 1074) ≤ P then .error .badOperand else if 2 ^ (64 + 1074) ≤ P then .error .overflow
       else .ok (BitVec.ofNat 64 (P / 2 ^ 1074)))) ∧
  (∀ m f : Nat, m < 2 ^ 23 → binary32.secsToTicks (255 * 2 ^ 23 + m) f = .error .badOperand) ∧
  (∀ m f : Nat, m < 2 ^ 52 → binary64.secsToTicks (2047 * 2 ^ 52 + m) f = .error .badOperand) ∧
  (∀ b f : Nat, 2 ^ 31 < b → b < 2 ^ 32 → binary32.secsToTicks b f =
    (if 2 ^ 31 + 255 * 2 ^ 23 < b then .error .badOperand else .error .negativeDuration)) ∧
  (∀ b f : Nat, 2 ^ 63 < b → b < 2 ^ 64 → binary64.secsToTicks b f =
    (if 2 ^ 63 + 2047 * 2 ^ 52 < b then .error .badOperand else .error .negativeDuration)) ∧
  (∀ f : Nat, binary32.secsToTicks (2 ^ 31) f = .ok 0 ∧ binary64.secsToTicks (2 ^ 63) f = .ok 0)

/-! ### DelayEngine -/

/-- R161, R165 to R169, R172: the first host step of every delay: the conversion, the check and the reference sample. Every
delay of more than 0 ticks is refused while the counter is stopped, and with the refusal of its conversion where that
refuses. DLY_DURATION of a duration that is not Ticks and carries no frequency faults; a present frequency of 0 is
refused (log 16 for the form Ticks). -/
def Obligations.DelaysBegin : Prop :=
  (∀ (s : State) (t : DWord) (i : Instr),
    (i = .dlyTicks t ∨
      (∃ n : Word, i = .dlyUs n ∧ n.toNat * s.params.clkHz.toNat / 10 ^ 6 = t.toNat) ∨
      (∃ n : Word, i = .dlyMs n ∧ n.toNat * s.params.clkHz.toNat / 10 ^ 3 = t.toNat) ∨
      (∃ x : Word, i = .dlySF32 x ∧ binary32.secsToTicks x.toNat s.params.clkHz.toNat = .ok t) ∨
      (∃ x : DWord, i = .dlySF64 x ∧ binary64.secsToTicks x.toNat s.params.clkHz.toNat = .ok t) ∨
      (∃ f, i = .dlyDuration ⟨.ticks t, f⟩ ∧ f ≠ some 0) ∨
      (∃ (n : DWord) (f : Word), i = .dlyDuration ⟨.nanos n, some f⟩ ∧ f ≠ 0 ∧ n.toNat * f.toNat / 10 ^ 9 = t.toNat) ∨
      (∃ x f : Word, i = .dlyDuration ⟨.secs32 x, some f⟩ ∧ f ≠ 0 ∧ binary32.secsToTicks x.toNat f.toNat = .ok t) ∨
      (∃ (x : DWord) (f : Word), i = .dlyDuration ⟨.secs64 x, some f⟩ ∧ f ≠ 0 ∧
        binary64.secsToTicks x.toNat f.toNat = .ok t)) →
    (t = 0 ∨ s.counterEnabled = true → exec i s = .next (s.delayBegun t)) ∧
    (t ≠ 0 → s.counterEnabled = false → exec i s = .next (s.refuse .counterDisabled))) ∧
  (∀ (s : State) (r : Refusal),
    (∀ x : Word, binary32.secsToTicks x.toNat s.params.clkHz.toNat = .error r → exec (.dlySF32 x) s = .next (s.refuse r)) ∧
    (∀ x : DWord, binary64.secsToTicks x.toNat s.params.clkHz.toNat = .error r →
      exec (.dlySF64 x) s = .next (s.refuse r)) ∧
    (∀ x f : Word, f ≠ 0 → binary32.secsToTicks x.toNat f.toNat = .error r →
      exec (.dlyDuration ⟨.secs32 x, some f⟩) s = .next (s.refuse r)) ∧
    (∀ (x : DWord) (f : Word), f ≠ 0 → binary64.secsToTicks x.toNat f.toNat = .error r →
      exec (.dlyDuration ⟨.secs64 x, some f⟩) s = .next (s.refuse r))) ∧
  (∀ s : State,
    (∀ (n : DWord) (f : Word), 2 ^ 64 ≤ n.toNat * f.toNat / 10 ^ 9 →
      exec (.dlyDuration ⟨.nanos n, some f⟩) s = .next (s.refuse .overflow)) ∧
    (∀ form, exec (.dlyDuration ⟨form, some 0⟩) s = .next (s.refuse .badOperand)) ∧
    (∀ n, exec (.dlyDuration ⟨.nanos n, none⟩) s = .next (s.raiseFault .conversionFailure)) ∧
    (∀ x, exec (.dlyDuration ⟨.secs32 x, none⟩) s = .next (s.raiseFault .conversionFailure)) ∧
    (∀ x, exec (.dlyDuration ⟨.secs64 x, none⟩) s = .next (s.raiseFault .conversionFailure)))

/-- R161 to R163: one poll of a delay: hold, go on to the next sub-wait from the chained reference, or end. -/
def Obligations.DelayPollResult : Prop :=
  ∀ (s : State) (w : WaitRegs) (h : HostStep) (rest : List HostStep),
    h.act = .delayPoll → h.phase = none → s.ctx = { todo := h :: rest, latch := s.ctx.latch, wait := some w, setupStep := h.sub } →
    let e := (s.cyccnt - w.start).toNat
    let rem := w.rem - w.sub.setWidth 64
    (e < w.sub.toNat → s.continueOp = s.regRead .dwtCyccnt) ∧
    (w.sub.toNat ≤ e → rem ≠ 0 → s.continueOp =
      { s.regRead .dwtCyccnt with
        ctx := { s.ctx with wait := some ⟨w.start + w.sub, rem, BitVec.ofNat 32 (min rem.toNat 2147483647)⟩ } }) ∧
    (w.sub.toNat ≤ e → rem = 0 → rest = [] → s.continueOp = { s.regRead .dwtCyccnt with ctx := Ctx.idle })

/-- R161: a delay of 1 to 2^31 − 1 ticks returns at a poll made after at least that many and fewer than 2^32 TICK steps;
polled any time before, it holds. -/
def Obligations.DelayReturns : Prop :=
  ∀ (s : State) (t : DWord), s.counterEnabled = true → t ≠ 0 → t.toNat < 2 ^ 31 →
    (∀ k < t.toNat, (iterState State.tickStep k (s.delayBegun t)).continueOp.ctx = (s.delayBegun t).ctx) ∧
    (∀ k, t.toNat ≤ k → k < 2 ^ 32 → (iterState State.tickStep k (s.delayBegun t)).continueOp =
      { s.delayBegun t with
        cyccnt := s.cyccnt + BitVec.ofNat 32 k
        lastRead := some (.reg .dwtCyccnt (s.cyccnt + BitVec.ofNat 32 k) (s.draws + 1))
        draws := s.draws + 2
        ctx := Ctx.idle })

/-- The lower bound, which the spec derives from R143, R161 and R163 (its R164). From the moment the reference sample of a
delay of `t` ticks is taken, under every schedule and every interrupt program that holds no raw write of CYCCNT (log 18),
the code that waits, the host's or interrupt code's own, has passed the delay's polls only if at least `t` TICK steps have
happened; preemption between two polls, which R171 allows, only lengthens the wait. -/
def Obligations.DelayLowerBound : Prop :=
  ∀ (s : State) (t : DWord) (h : HostStep) (rest : List HostStep) (k : Nat) (u : State),
    s.countInv = true → h.act = .delayPoll → s.ctx.todo = h :: rest →
    s.ctx.wait = some ⟨s.cyccnt, t, BitVec.ofNat 32 (min t.toNat 2147483647)⟩ → runFor k s = .next u →
    (s.irq = none → u.hostCtx.todo ≠ h :: rest → t.toNat ≤ ticksIn k s) ∧
    (∀ a, s.irq = some a → ¬ (u.irq = some a ∧ u.ctx.todo = h :: rest) → t.toNat ≤ ticksIn k s)

/-! ### StopWatch -/

/-- R39, R180, R181, R184: SW_NEW, SW_LAP, SW_RESET; what is stored under a handle is found under it and nothing else is
touched; the refusals of the StopWatch operations. -/
def Obligations.StopWatchRecords : Prop :=
  ∀ (s : State) (h : Word),
    (∀ cap freq : Word, freq ≠ 0 → 2 ≤ cap.toNat → s.watch h = none →
      exec (.swNew h cap freq) s = .next ((s.regRead .dwtCyccnt).setWatch h
        { cap := cap.toNat, samples := some s.cyccnt :: List.replicate (cap.toNat - 1) none, cursor := 0, freq := freq,
          it := 1 })) ∧
    (∀ w, s.watch h = some w → let k := if w.cursor < w.cap - 1 then w.cursor + 1 else w.cursor
      exec (.swLap h) s = .next ((s.regRead .dwtCyccnt).setWatch h
        { w with cursor := k, samples := w.samples.set k (some s.cyccnt) })) ∧
    (∀ w, s.watch h = some w → exec (.swReset h) s = .next ((s.regRead .dwtCyccnt).setWatch h
      { w with cursor := 0, samples := w.samples.set 0 (some s.cyccnt), it := 1 })) ∧
    (∀ w, (s.setWatch h w).watch h = some w ∧ ∀ g, g ≠ h → (s.setWatch h w).watch g = s.watch g) ∧
    (s.watch h = none →
      exec (.swLap h) s = .next (s.refuse .noSuchHandle) ∧
      (∀ n, exec (.swLapTime h n) s = .next (s.refuse .noSuchHandle)) ∧
      exec (.swReset h) s = .next (s.refuse .noSuchHandle) ∧
      exec (.swIterNext h) s = .next (s.refuse .noSuchHandle)) ∧
    (∀ cap freq : Word, cap.toNat < 2 → exec (.swNew h cap freq) s = .next (s.refuse .badOperand)) ∧
    (∀ cap freq : Word, 2 ≤ cap.toNat → freq ≠ 0 → (s.watch h).isSome →
      exec (.swNew h cap freq) s = .next (s.refuse .handleInUse))

/-- R182, R185: SW_LAP_TIME and SW_ITER_NEXT. -/
def Obligations.StopWatchLapTimes : Prop :=
  ∀ (s : State) (h : Word) (w : StopWatch), s.watch h = some w →
    (∀ n : Word, n = 0 ∨ w.cursor < n.toNat → exec (.swLapTime h n) s = .next { s with res := some (.duration none) }) ∧
    (∀ (n a b : Word), n ≠ 0 → n.toNat ≤ w.cursor → w.samples[n.toNat]? = some (some b) →
      w.samples[n.toNat - 1]? = some (some a) →
      exec (.swLapTime h n) s =
        .next { s with res := some (.duration (some ⟨.ticks ((b - a).setWidth 64), some w.freq⟩)) }) ∧
    (w.it = 0 ∨ w.cursor < w.it →
      exec (.swIterNext h) s = .next { s.setWatch h w with res := some (.duration none) }) ∧
    (∀ a b : Word, w.it ≠ 0 → w.it ≤ w.cursor → w.samples[w.it]? = some (some b) → w.samples[w.it - 1]? = some (some a) →
      exec (.swIterNext h) s = .next { s.setWatch h { w with it := w.it + 1 } with
        res := some (.duration (some ⟨.ticks ((b - a).setWidth 64), some w.freq⟩)) })

/-- The saturation law, which the spec derives from R180 and R181 (its R186): after SW_NEW and `k` laps the cursor is min(k, cap − 1), and from the lap that fills the storage
on, the last slot holds the latest sample. -/
def Obligations.SaturationLaw : Prop :=
  ∀ (cap freq c : Word) (laps : List Word), 2 ≤ cap.toNat →
    let w := laps.foldl StopWatch.lap (newWatch cap freq c)
    w.cursor = min laps.length (cap.toNat - 1) ∧
    (∀ last, laps.getLast? = some last → cap.toNat - 1 ≤ laps.length → w.samples[cap.toNat - 1]? = some (some last)) ∧
    (∀ i (hi : i < laps.length), i + 1 < cap.toNat - 1 → w.samples[i + 1]? = some (some laps[i])) ∧
    w.samples[0]? = some (some c)

/-! ### TimingCalculator -/

/-- R201, R202: TC_NANOS_TO_CYCLES and TC_REFRESH_COUNTER: the ceiling is taken once, on the exact quotient. -/
def Obligations.CalculatorResults : Prop :=
  (∀ (s : State) (ns f d sub mn : Word), (encode (.tcNanosToCycles ns f d sub mn)).head? = some 0x30 ∧
    (f = 0 ∨ d = 0 → exec (.tcNanosToCycles ns f d sub mn) s = .next (s.refuse .badOperand)) ∧
    (f ≠ 0 → d ≠ 0 → ∃ c : Nat,
      ns.toNat * f.toNat ≤ c * (d.toNat * 10 ^ 9) ∧ (c * (d.toNat * 10 ^ 9) < ns.toNat * f.toNat + d.toNat * 10 ^ 9) ∧
      (let r := if mn.toNat + sub.toNat < c then c - sub.toNat else mn.toNat
       exec (.tcNanosToCycles ns f d sub mn) s =
         .next (if r < 2 ^ 32 then { s with res := some (.u32 (BitVec.ofNat 32 r)) } else s.refuse .overflow)))) ∧
  (∀ (s : State) (p f d rows : Word), (encode (.tcRefreshCounter p f d rows)).head? = some 0x31 ∧
    (f = 0 ∨ d = 0 ∨ rows = 0 → exec (.tcRefreshCounter p f d rows) s = .next (s.refuse .badOperand)) ∧
    (f ≠ 0 → d ≠ 0 → rows ≠ 0 → ∃ c : Nat,
      p.toNat * f.toNat ≤ c * (d.toNat * 10 ^ 9) ∧ (c * (d.toNat * 10 ^ 9) < p.toNat * f.toNat + d.toNat * 10 ^ 9) ∧
      (let raw := c / rows.toNat
       let v := if raw ≤ 61 then 41 else raw - 20
       exec (.tcRefreshCounter p f d rows) s =
         .next (if v ≤ 0xFFFF then { s with res := some (.u16 (BitVec.ofNat 16 v)) } else s.refuse .overflow))))

/-- R203: TC_CONVERT_SPEC answers the cycle counts exactly when every field converts and fits. Otherwise the first of the
eight fields, in R203's order, that does not decides the refusal: its conversion's own (R201, R202), or FieldOverflow
for a value that does not fit. The refresh count must fit the COUNT field, 13 bits in the default map (log 33). -/
def Obligations.ConvertSpecResult : Prop :=
  ∀ (s : State) (t : TimingSpecNs) (f d : Word), timingSpecOk s.params.fieldValues t = true → f ≠ 0 →
    let p := s.params.timingSubMin
    let fits := fun (sm : SubMin) (ns : Word) (c : Nat) =>
      nanosToCycles ns.toNat f.toNat d.toNat sm.subtract sm.minimum = .ok c ∧ c < 2 ^ s.params.timingFieldBits
    (∀ c : TimingSpecCycles, fits p.rcd t.ns.rcd c.rcd → fits p.rp t.ns.rp c.rp → fits p.wr t.ns.wr c.wr →
      fits p.rc t.ns.rc c.rc → fits p.ras t.ns.ras c.ras → fits p.xsr t.ns.xsr c.xsr → fits p.mrd t.ns.mrd c.mrd →
      refreshCounter t.ns.refreshPeriod.toNat f.toNat d.toNat (2 ^ t.rowBits.toNat) = .ok c.refresh.toNat →
      c.refresh.toNat < 2 ^ s.fields.sdrtr.count.width →
      exec (.tcConvertSpec t f d) s = .next { s with res := some (.cycles c) }) ∧
    (∀ c : TimingSpecCycles, exec (.tcConvertSpec t f d) s = .next { s with res := some (.cycles c) } →
      s.res ≠ some (.cycles c) →
      fits p.rcd t.ns.rcd c.rcd ∧ fits p.rp t.ns.rp c.rp ∧ fits p.wr t.ns.wr c.wr ∧ fits p.rc t.ns.rc c.rc ∧
      fits p.ras t.ns.ras c.ras ∧ fits p.xsr t.ns.xsr c.xsr ∧ fits p.mrd t.ns.mrd c.mrd ∧
      refreshCounter t.ns.refreshPeriod.toNat f.toNat d.toNat (2 ^ t.rowBits.toNat) = .ok c.refresh.toNat ∧
      c.refresh.toNat < 2 ^ s.fields.sdrtr.count.width) ∧
    ((∃ c, exec (.tcConvertSpec t f d) s = .next { s with res := some (.cycles c) }) ∨
      ∃ r, exec (.tcConvertSpec t f d) s = .next (s.refuse r)) ∧
    (let bound : Nat → Except Refusal Nat → Except Refusal Nat := fun lim e =>
       match e with
       | .ok c => if lim ≤ c then .error .fieldOverflow else .ok c
       | .error r => .error r
     let delay := fun (sm : SubMin) (ns : Word) =>
       bound (2 ^ s.params.timingFieldBits) (nanosToCycles ns.toNat f.toNat d.toNat sm.subtract sm.minimum)
     let fields := [delay p.rcd t.ns.rcd, delay p.rp t.ns.rp, delay p.wr t.ns.wr, delay p.rc t.ns.rc, delay p.ras t.ns.ras,
       delay p.xsr t.ns.xsr, delay p.mrd t.ns.mrd,
       bound (2 ^ s.fields.sdrtr.count.width) (refreshCounter t.ns.refreshPeriod.toNat f.toNat d.toNat (2 ^ t.rowBits.toNat))]
     ∀ (k : Nat) (r : Refusal), fields[k]? = some (.error r) → (∀ j < k, ∃ c, fields[j]? = some (.ok c)) →
       exec (.tcConvertSpec t f d) s = .next (s.refuse r))

/-- The laws of the calculator, which the spec derives from R201 and R202 (its R204). -/
def Obligations.CalculatorLaws : Prop :=
  (∀ ns ns' f d sub mn r r' : Nat, ns ≤ ns' → nanosToCycles ns f d sub mn = .ok r →
    nanosToCycles ns' f d sub mn = .ok r' → r ≤ r') ∧
  (∀ f d sub mn : Nat, f ≠ 0 → d ≠ 0 → mn < 2 ^ 32 → nanosToCycles 0 f d sub mn = .ok mn) ∧
  (∀ ns f d sub mn r : Nat, nanosToCycles ns f d sub mn = .ok r → mn ≤ r) ∧
  (∀ p p' f d rows v v' : Nat, p ≤ p' → refreshCounter p f d rows = .ok v → refreshCounter p' f d rows = .ok v' →
    v ≤ v') ∧
  (∀ p f d rows v : Nat, refreshCounter p f d rows = .ok v → 41 ≤ v)

/-! ### SDRAM sequencer -/

/-- R111, R114, R244: SD_MODE_WORD: each field at its place, bit 2 and bits [12:10] zero; a value outside its legal set is
refused. That the operand byte 1 of burst_type is Interleaved, 1 of write_burst Single and 0 of op_mode Standard, and so
which bytes are refused, is the model's choice (log 21). -/
def Obligations.ModeWordResult : Prop :=
  ∀ (s : State) (mp : ModeParams), (encode (.sdModeWord mp)).head? = some 0x43 ∧
    (modeConfigOk mp.mode = true → casOk mp.casLatency = true → ∃ w : BitVec 13,
      exec (.sdModeWord mp) s = .next { s with res := some (.u13 w) } ∧
      2 ^ (w.extractLsb' 0 2).toNat = mp.mode.burstLength.toNat ∧ w.getLsbD 2 = false ∧
      w.getLsbD 3 = (mp.mode.burstType == 1) ∧ (w.extractLsb' 4 3).toNat = mp.casLatency.toNat ∧
      w.extractLsb' 7 2 = s.params.mrOpmodeStandard ∧ w.getLsbD 9 = (mp.mode.writeBurst == 1) ∧
      w.extractLsb' 10 3 = 0) ∧
    (modeConfigOk mp.mode = false ∨ casOk mp.casLatency = false →
      exec (.sdModeWord mp) s = .next (s.refuse .badOperand)) ∧
    (modeConfigOk mp.mode = true ∧ casOk mp.casLatency = true ↔
      mp.mode.burstLength.toNat ∈ [1, 2, 4, 8] ∧ mp.mode.burstType.toNat ∈ [0, 1] ∧ mp.casLatency.toNat ∈ [1, 2, 3] ∧
      mp.mode.opMode = 0 ∧ mp.mode.writeBurst.toNat ∈ [0, 1])

/-- R242, R112, R115: SD_SEND_CMD with the controller ready: four host steps, interrupts masked from the first to the last, and
the one command word written; with the FMC not clocked the write is ignored (R247), and so it is with the reset line
asserted (R226, log 11: the model's reading). With the controller busy the poll holds, masked, as often as it is made, and
after the FMC's step the next poll passes and the word is written. A MODE the block does not issue is refused (R113). -/
def Obligations.SendCmdResult : Prop :=
  (∀ (s : State) (b : Bank) (bank mode nrfs : Byte) (mrd : BitVec 16),
    bankOf bank = some b → mode ∈ [1, 2, 3, 4] → nrfs.toNat < 16 → mrd.toNat < 8192 → s.busyRead = false →
    let w := s.fields.sdcmr.word (mode.setWidth 3) b.ctb1 b.ctb2 (nrfs.setWidth 4) (mrd.setWidth 13)
    (s.fields = .default → w.toNat = mode.toNat + (if b = .bankA then 0 else 8) + (if b = .bankB then 0 else 16) +
      nrfs.toNat * 32 + mrd.toNat * 512) ∧
    ∃ t, exec (.sdSendCmd bank mode nrfs mrd) s = .next t ∧
      (∀ k < 3, (t.continueFor k).imask = true ∧ (t.continueFor k).ctx.todo ≠ []) ∧
      (s.fmcWritable = true → t.continueFor 3 =
        { s.regRead .sdsr with sdcmr := w, fmcPending := some w, busy := true, ctx := Ctx.idle }) ∧
      (s.fmcWritable = false → t.continueFor 3 = { s.regRead .sdsr with ctx := Ctx.idle })) ∧
  (∀ (s : State) (b : Bank) (bank mode nrfs : Byte) (mrd : BitVec 16),
    bankOf bank = some b → mode ∈ [1, 2, 3, 4] → nrfs.toNat < 16 → mrd.toNat < 8192 → s.busyRead = true →
    let w := s.fields.sdcmr.word (mode.setWidth 3) b.ctb1 b.ctb2 (nrfs.setWidth 4) (mrd.setWidth 13)
    ∃ t, exec (.sdSendCmd bank mode nrfs mrd) s = .next t ∧ t.ctx.todo ≠ [] ∧
      t = { s with imask := true, csStack := s.imask :: s.csStack, ctx := t.ctx } ∧
      ∀ k, let v := t.continueFor k
        v = { t with lastRead := v.lastRead, draws := v.draws } ∧
        (s.fmcPending.isSome = true → s.params.fmcResponds = true →
          let u := v.fmcStep
          u.busyRead = false ∧ u.continueFor 3 =
            { u.regRead .sdsr with
              sdcmr := w, fmcPending := some w, busy := true, imask := s.imask, csStack := s.csStack, ctx := Ctx.idle })) ∧
  (∀ (s : State) (bank mode nrfs : Byte) (mrd : BitVec 16),
    bank.toNat < 3 → mode ∈ [0, 5, 6, 7] → nrfs.toNat < 16 → mrd.toNat < 8192 →
    exec (.sdSendCmd bank mode nrfs mrd) s = .next (s.refuse .unsupportedCommand))

/-- R243, R249, R290: SD_WAIT_READY and LT_WAIT_READY: from ready one poll, else a poll that holds. -/
def Obligations.WaitsPoll : Prop :=
  ∀ s : State,
    (s.busyRead = false → exec .sdWaitReady s = .next { s.regRead .sdsr with ctx := Ctx.idle }) ∧
    (s.busyRead = true → ∃ t, exec .sdWaitReady s = .next t ∧
      t = { s.regRead .sdsr with ctx := { todo := [⟨.pollReady, none, none⟩] } } ∧
      ∀ k, (t.continueFor k).ctx = t.ctx) ∧
    (s.reloadReady = true → exec .ltWaitReady s = .next { s.regRead .srcr with ctx := Ctx.idle }) ∧
    (s.reloadReady = false → ∃ t, exec .ltWaitReady s = .next t ∧
      t = { s.regRead .srcr with ctx := { todo := [⟨.pollReload, none, none⟩] } } ∧
      ∀ k, (t.continueFor k).ctx = t.ctx)

/-- R245: a command word written to FMC_SDCMR: ignored while the FMC is not clocked, a fault while BUSY, else taken whole in
one step. That a write with the reset line asserted is ignored before BUSY is looked at is the model's reading of R226
(log 11). For the four rows of format SDCMR (log 6). -/
def Obligations.CommandWordsWritten : Prop :=
  ∀ (s : State) (b2 b1 : Bool) (n : BitVec 4) (m : BitVec 13) (i : Instr) (mode : BitVec 3),
    (i, mode) ∈ [(Instr.sdcmdClk b2 b1 n m, 1), (Instr.sdcmdPall b2 b1 n m, 2), (Instr.sdcmdAref b2 b1 n m, 3),
      (Instr.sdcmdLmr b2 b1 n m, 4)] →
    let w := s.fields.sdcmr.word mode b1 b2 n m
    (s.fields = .default → commandOf i = some w) ∧
    (s.fmcWritable = false → exec i s = .next { s with ctx := Ctx.idle }) ∧
    (s.fmcWritable = true → s.busy = true → exec i s = .next (s.raiseFault .commandCorrupted)) ∧
    (s.fmcWritable = true → s.busy = false →
      exec i s = .next { s with sdcmr := w, fmcPending := some w, busy := true, ctx := Ctx.idle })

/-- R226, R246, R247: the FMC agent's step, and no step where none is pending, the clock is off, the reset line is asserted or
the controller does not respond; while the FMC is not clocked or its reset line is asserted, a write of any FMC register
changes nothing, and a read gives 0 in the first case and the reset value in the second. That a read with the clock off
gives 0 whatever the reset line does is the model's reading (log 11). -/
def Obligations.FmcStepAndGating : Prop :=
  (∀ s : State, s.fmcPending = none → s.fmcStep = s) ∧
  (∀ (s : State) (w : Word), s.fmcPending = some w →
    (s.fmcen = true → s.fmcrst = false → s.params.fmcResponds = true →
      let m := s.fields.sdcmr
      let mode := m.mode.get w
      let arg := if mode = 3 then some (m.nrfs.get w + 1) else if mode = 4 then some (m.mrd.get w) else none
      s.fmcStep = { s with
        sdramLog := s.sdramLog ++ [⟨m.ctb1.isSet w, m.ctb2.isSet w, BitVec.ofNat 3 mode, arg, s.cyccnt⟩]
        fmcPending := none
        busy := false }) ∧
    (s.fmcen = false ∨ s.fmcrst = true ∨ s.params.fmcResponds = false → s.fmcStep = s)) ∧
  (∀ (s : State) (r : Reg) (w : Word), isFmcReg r = true →
    (s.fmcen = false → s.regWrite r w = .ok s ∧ s.regValue r = 0) ∧
    (s.fmcen = true → s.fmcrst = true → s.regWrite r w = .ok s ∧ s.regValue r = s.params.resetWord r))

/-- R223, R250: the refusals of SD_BRINGUP, in their order; a refused bring-up writes nothing but its mark. R229, R114: the
legal geometry values, for the default field values, and the legal mode values. Type errors before all of them are log 26,
and the operand bytes of the legal mode values log 21. -/
def Obligations.BringupRefusals : Prop :=
  (∀ (m : FieldMap) (g : Geometry), (sdcrWord m {} g).isSome = true ↔
    g.colBits.toNat ∈ [8, 9, 10, 11] ∧ g.rowBits.toNat ∈ [11, 12, 13] ∧ g.dataWidth.toNat ∈ [8, 16, 32] ∧
    g.internalBanks.toNat ∈ [2, 4] ∧ g.casLatency.toNat ∈ [1, 2, 3] ∧ g.sdclkDiv.toNat ∈ [2, 3] ∧
    g.readPipe.toNat ∈ [0, 1, 2]) ∧
  (∀ (p : Params) (mp : ModeParams), (modeWord p mp).isSome = true ↔
    mp.mode.burstLength.toNat ∈ [1, 2, 4, 8] ∧ mp.mode.burstType.toNat ∈ [0, 1] ∧ mp.casLatency.toNat ∈ [1, 2, 3] ∧
    mp.mode.opMode = 0 ∧ mp.mode.writeBurst.toNat ∈ [0, 1]) ∧
  (∀ (p : Params) (cfg : SdramConfig), (bringupWords p cfg).isSome = true ↔
    (sdcrWord p.regMap.fields p.fieldValues cfg.geometry).isSome = true ∧
    (modeWord p ⟨cfg.mode, cfg.geometry.casLatency⟩).isSome = true) ∧
  ∀ (s : State) (bank : Byte) (cfg : SdramConfig), Instr.wf s.numLayers s.params.fieldValues (.sdBringup bank cfg) = true →
    (s.seqPhase ≠ .idle → exec (.sdBringup bank cfg) s = .next (s.refuse .sequencerReentered)) ∧
    (s.seqPhase = .idle → bringupWords s.params cfg = none →
      exec (.sdBringup bank cfg) s = .next (s.refuse .badOperand)) ∧
    (s.seqPhase = .idle → (bringupWords s.params cfg).isSome → s.counterEnabled = false →
      exec (.sdBringup bank cfg) s = .next (s.refuse .counterDisabled)) ∧
    (∀ r, s.seqPhase = .idle → (bringupWords s.params cfg).isSome → s.counterEnabled = true →
      bringupCycles s.params cfg = .error r → exec (.sdBringup bank cfg) s = .next (s.refuse r))

/-- R222, R228, R230, R231, R234, R236 to R241: SD_BRINGUP reaches LIVE when the FMC answers and the counter ticks after every
host step: the registers of the bank selected, the four commands in the log, the mask restored. For every BANK1_ONLY_CTRL
the fields that go to both banks are the nine less that set: R228's six for the default set, the model's choice for
another (log 27). -/
def Obligations.BringupReachesLive : Prop :=
  ∀ (s : State) (bank : Byte) (b : Bank) (cfg : SdramConfig) (sdcr : Word) (mr : BitVec 13) (cyc : TimingSpecCycles),
    s.params.layoutOk = true →
    Instr.wf s.numLayers s.params.fieldValues (.sdBringup bank cfg) = true → bankOf bank = some b →
    s.seqPhase = .idle → bringupWords s.params cfg = some (sdcr, mr) → s.counterEnabled = true →
    bringupCycles s.params cfg = .ok cyc → s.params.fmcResponds = true → s.fmcrst = false → s.busy = false →
    s.fmcPending = none → s.regInv = true →
    let m := s.fields
    let shared := ctrlMask m s.params.bank1OnlyCtrl
    let only := timMask m s.params.bank1OnlyTiming
    let sdtr := sdtrWord m cyc
    let old := fun (r : Reg) => if s.fmcen then s.regHeld r else s.params.resetWord r
    ∃ (t : State) (n : Nat), exec (.sdBringup bank cfg) s = .next t ∧ t.imask = true ∧ t.seqPhase = .clockEnable ∧
      t.seqBank = some b ∧
      let u := iterState State.sdramRound n t
      u.ctx = Ctx.idle ∧ u.seqPhase = .live ∧ u.seqBank = some b ∧ u.imask = s.imask ∧ u.csStack = s.csStack ∧
      u.fmcen = true ∧ u.fmcrst = false ∧ u.busy = false ∧ u.fmcPending = none ∧
      u.sdcr1 = (if b = .bankB then (old .sdcr1 &&& ~~~shared) ||| (sdcr &&& shared) else sdcr) ∧
      u.sdcr2 = (if b = .bankA then old .sdcr2 else sdcr &&& ~~~shared) ∧
      u.sdtr1 = (if b = .bankB then (old .sdtr1 &&& ~~~only) ||| (sdtr &&& only) else sdtr) ∧
      u.sdtr2 = (if b = .bankA then old .sdtr2 else sdtr &&& ~~~only) ∧
      u.sdcmr = m.sdcmr.word 4 b.ctb1 b.ctb2 0 mr ∧ u.sdrtr = m.sdrtr.count.put cyc.refresh.toNat ∧
      (u.sdramLog.map fun e => (e.bank1, e.bank2, e.mode, e.arg)) =
        (s.sdramLog.map fun e => (e.bank1, e.bank2, e.mode, e.arg)) ++
          [(b.ctb1, b.ctb2, 1, none), (b.ctb1, b.ctb2, 2, none), (b.ctb1, b.ctb2, 3, some 8),
            (b.ctb1, b.ctb2, 4, some mr.toNat)] ∧
      u.res = s.res ∧ u.faulted = s.faulted ∧ u.refused = s.refused ∧ u.sdram = s.sdram ∧ u.layers = s.layers ∧
      u.gcr = s.gcr ∧ u.srcr = s.srcr ∧ u.watches = s.watches

/-- The power-up law, which the spec derives from R236 and R164 (its R378): in a bring-up, under every schedule, at least
(SDRAM_POWERUP_US × CLK_HZ) div 10^6 TICK steps lie between the host step that writes the clock-configuration-enable
command and the one that writes the precharge-all command. `clk` and `pall` are the list of host steps still to be made
when the first, and when the second, is next. -/
def Obligations.PowerUpLaw : Prop :=
  ∀ (s u : State) (k : Nat) (b : Bank) (sdcr sdtr : Word) (mr : BitVec 13) (refresh : BitVec 16)
    (wc wp : Word) (pc pp : Option SeqPhase) (clk pall : List HostStep),
    clk <:+ bringupSteps s.params b sdcr sdtr mr refresh → pall <:+ clk →
    clk.head? = some ⟨.write .sdcmr wc, pc, none⟩ → s.fields.sdcmr.mode.get wc = 1 →
    pall.head? = some ⟨.write .sdcmr wp, pp, none⟩ → s.fields.sdcmr.mode.get wp = 2 →
    s.imask = true → s.irq = none → s.ctx.todo = clk → runFor k s = .next u → u.ctx.todo = pall →
    500 * s.params.clkHz.toNat / 10 ^ 6 ≤ ticksIn k s

/-- R116, R229, R41, R42, R44, R119, R120, R53: the words that the block puts together. With any layout each field of the
control word of a legal geometry is the code of its value, and the two fields of a window word are stop and start; with
the default map the control, timing and refresh words, a boundary pair, a window pair and a colour are the sums of their
fields at the spec's positions. The field values are the default ones; the widths of the window fields are log 32. -/
def Obligations.ControlWordFields : Prop :=
  (∀ (p : Params) (g : Geometry) (w : Word), p.layoutOk = true → sdcrWord p.regMap.fields {} g = some w →
    boolOk g.writeProtect = true → boolOk g.readBurst = true →
    let m := p.regMap.fields.sdcr
    m.nc.get w = g.colBits.toNat - 8 ∧ m.nr.get w = g.rowBits.toNat - 11 ∧
    m.mwid.get w = (if g.dataWidth = 8 then 0 else if g.dataWidth = 16 then 1 else 2) ∧
    m.nb.get w = (if g.internalBanks = 2 then 0 else 1) ∧ m.cas.get w = g.casLatency.toNat ∧
    m.wp.get w = g.writeProtect.toNat ∧ m.sdclk.get w = g.sdclkDiv.toNat ∧ m.rburst.get w = g.readBurst.toNat ∧
    m.rpipe.get w = g.readPipe.toNat) ∧
  (∀ (g : Geometry) (w : Word), sdcrWord .default {} g = some w → boolOk g.writeProtect = true →
    boolOk g.readBurst = true →
    w.toNat = (g.colBits.toNat - 8) + 4 * (g.rowBits.toNat - 11) +
      16 * (if g.dataWidth = 8 then 0 else if g.dataWidth = 16 then 1 else 2) + 64 * (if g.internalBanks = 2 then 0 else 1) +
      128 * g.casLatency.toNat + 512 * g.writeProtect.toNat + 1024 * g.sdclkDiv.toNat + 4096 * g.readBurst.toNat +
      8192 * g.readPipe.toNat) ∧
  (∀ c : TimingSpecCycles, c.mrd < 16 → c.xsr < 16 → c.ras < 16 → c.rc < 16 → c.wr < 16 → c.rp < 16 → c.rcd < 16 →
    (sdtrWord .default c).toNat = c.mrd + 16 * c.xsr + 256 * c.ras + 4096 * c.rc + 65536 * c.wr + 1048576 * c.rp +
      16777216 * c.rcd) ∧
  (∀ r : BitVec 16, r.toNat < 2 ^ 13 → (sdrtrWord .default r).toNat = 2 * r.toNat) ∧
  (∀ h v : Nat, h < 2 ^ 12 → v < 2 ^ 11 → Params.default.boundary .default h v = pairOf h v) ∧
  (∀ k : Word, k.toNat < 2 ^ 24 → ColourFields.default.word k = k) ∧
  (∀ stop start : Nat, stop < 2 ^ 12 → start < 2 ^ 12 → Params.default.windowH stop start = pairOf stop start) ∧
  (∀ stop start : Nat, stop < 2 ^ 11 → start < 2 ^ 11 → Params.default.windowV stop start = pairOf stop start) ∧
  (∀ (p : Params) (stop start : Nat), p.layoutOk = true →
    let q := p.regMap.fields.layer
    (stop < 2 ^ p.hFieldBits → start < 2 ^ p.hFieldBits →
      (q.whpcr.high p.hFieldBits).get (p.windowH stop start) = stop ∧
      (q.whpcr.low p.hFieldBits).get (p.windowH stop start) = start) ∧
    (stop < 2 ^ p.vFieldBits → start < 2 ^ p.vFieldBits →
      (q.wvpcr.high p.vFieldBits).get (p.windowV stop start) = stop ∧
      (q.wvpcr.low p.vFieldBits).get (p.windowV stop start) = start))

/-! ### SDRAM windows and RES -/

/-- R81, R383: which bytes are live: those in the window of a bank that SEQ_BANK selects, in LIVE, with no FMC reset since.
R81: a host access with a byte in the window of a bank that is not live is a fault, in any width and wherever its other
bytes are, if it touches no block register; R82: an access that touches a block register and is not its four bytes is
refused; R295: a host read of a layer register gives its shadow copy; R30, R388: a read of RES before the first result
is a fault, and after it gives the result and changes nothing else but the host's names. That an access of the third
kind cannot be a write, and what one that reaches nothing of these answers, is log 14. -/
def Obligations.HostAccessStops : Prop :=
  (∀ (s : State) (a : Nat),
    (s.inBank1 a = true ↔ s.params.regMap.sdramBank1 ≤ a ∧ a < s.params.regMap.sdramBank1 + 2 ^ 28 ∧ a < 2 ^ 32) ∧
    (s.inBank2 a = true ↔ s.params.regMap.sdramBank2 ≤ a ∧ a < s.params.regMap.sdramBank2 + 2 ^ 28 ∧ a < 2 ^ 32) ∧
    (s.byteLive a = true ↔ s.seqPhase = .live ∧ s.seqResetAfterLive = false ∧
      (s.inBank1 a = true ∧ (s.seqBank = some .bankA ∨ s.seqBank = some .bothBanks) ∨
        s.inBank2 a = true ∧ (s.seqBank = some .bankB ∨ s.seqBank = some .bothBanks)))) ∧
  (RegMap.default.sdramBank1 = 0xC0000000 ∧ RegMap.default.sdramBank2 = 0xD0000000) ∧
  (∀ (s : State) (a : Nat) (bs : List Byte) (x : Nat), s.touchesReg a bs.length = false → a ≤ x → x < a + bs.length →
    s.inBank1 x = true ∨ s.inBank2 x = true → s.byteLive x = false →
    s.busRead a bs.length = .next (s.raiseFault .sdramNotLive) ∧ s.busWrite a bs = .next (s.raiseFault .sdramNotLive)) ∧
  (∀ (s : State) (a : Nat) (bs : List Byte), bs ≠ [] → s.touchesReg a bs.length = true →
    bs.length ≠ 4 ∨ s.regAt a = none →
    s.busRead a bs.length = .next (s.refuse .mixedWidthAccess) ∧ s.busWrite a bs = .next (s.refuse .mixedWidthAccess)) ∧
  (∀ (s : State) (a : Nat) (r : Reg) (w : Word), s.regAt a = some r →
    s.busRead a 4 = .next (s.regRead r) ∧ s.busWrite a (put32 w) = .refused .hostRegisterAccess ∧
    (∀ k l, r = .layer k l → s.regRead r =
      { s with lastRead := some (.reg r ((s.layer k).shadow.get l) s.draws), draws := s.draws + 1 })) ∧
  (∀ (s : State) (k : Nat), s.res = none → s.readRes k = s.raiseFault .resUnwritten) ∧
  (∀ (s : State) (k : Nat) (v : Value), s.res = some v → ∃ t, s.readRes k = t ∧
    t = { s with lastRead := some (.res v), names := t.names } ∧ assocGet k t.names = some v ∧
    ∀ j, j ≠ k → assocGet j t.names = assocGet j s.names)

/-- R81, R82: in the windows of live banks a write of bytes is read back in any width, the bytes of a word least significant
first, a byte of a write-protected bank keeps what it holds, and every other byte and every other field of the state is
as before. That the bytes of a window are different cells over its whole 256 MiB, whatever the geometry, and that WP
keeps a byte, is the model's choice (log 13). -/
def Obligations.WindowReadsBack : Prop :=
  (∀ (s : State) (a : Nat) (bs : List Byte), s.touchesReg a bs.length = false → allBytes s.byteLive a bs.length = true →
    ∃ t, s.busWrite a bs = .next t ∧ t = { s with sdram := t.sdram } ∧
      (∀ k (hk : k < bs.length),
        t.sdramByte (a + k) = if s.writeProtected (a + k) then s.sdramByte (a + k) else bs[k]) ∧
      (∀ x, x < a ∨ a + bs.length ≤ x → t.sdramByte x = s.sdramByte x) ∧
      (allBytes (fun x => !s.writeProtected x) a bs.length = true →
        t.busRead a bs.length = .next { t with lastRead := some (.mem a bs) })) ∧
  (∀ (w : Word) (k : Nat) (hk : k < 4), (put32 w)[k]'(by simpa [put32] using hk) = w.extractLsb' (8 * k) 8)

/-! ### LTDC -/

/-- R271, R272, R273: LT_SET_TIMING: the four boundary registers, and the refusals before any write. -/
def Obligations.SetTimingResult : Prop :=
  ∀ (s : State) (d : DisplayTimingSpec),
    let hsw := d.hSync.toNat - 1
    let hbp := hsw + d.hBackPorch.toNat
    let haw := hbp + d.hActive.toNat
    let htot := haw + d.hFrontPorch.toNat
    let vsw := d.vSync.toNat - 1
    let vbp := vsw + d.vBackPorch.toNat
    let vaw := vbp + d.vActive.toNat
    let vtot := vaw + d.vFrontPorch.toNat
    (d.hSync = 0 ∨ d.vSync = 0 → exec (.ltSetTiming d) s = .next (s.refuse .badOperand)) ∧
    (d.hSync ≠ 0 → d.vSync ≠ 0 → 2 ^ s.params.hFieldBits ≤ htot ∨ 2 ^ s.params.vFieldBits ≤ vtot →
      exec (.ltSetTiming d) s = .next (s.refuse .fieldOverflow)) ∧
    (d.hSync ≠ 0 → d.vSync ≠ 0 → htot < 2 ^ s.params.hFieldBits → vtot < 2 ^ s.params.vFieldBits →
      ∃ t, exec (.ltSetTiming d) s = .next t ∧ t.continueFor 3 =
        { s with
          sscr := s.params.boundary s.fields.sscr hsw vsw
          bpcr := s.params.boundary s.fields.bpcr hbp vbp
          awcr := s.params.boundary s.fields.awcr haw vaw
          twcr := s.params.boundary s.fields.twcr htot vtot
          ctx := Ctx.idle } ∧
        (s.params.layoutOk = true → ∀ q h v, (q, h, v) ∈ [(s.fields.sscr, hsw, vsw), (s.fields.bpcr, hbp, vbp),
            (s.fields.awcr, haw, vaw), (s.fields.twcr, htot, vtot)] →
          (q.high s.params.hFieldBits).get (s.params.boundary q h v) = h ∧
          (q.low s.params.vFieldBits).get (s.params.boundary q h v) = v))

/-- R274, R120: LT_WINDOW: the two window registers read as stop and start, field by field. That their fields are
H_FIELD_BITS and V_FIELD_BITS wide, whatever these are, is the model's choice (log 32). -/
def Obligations.WindowResult : Prop :=
  ∀ (s : State) (k : Byte) (h0 h1 v0 v1 : BitVec 16), 1 ≤ k.toNat → k.toNat ≤ s.layers.length →
    (h1 < h0 ∨ v1 < v0 → exec (.ltWindow k h0 h1 v0 v1) s = .next (s.refuse .badOperand)) ∧
    (h0 ≤ h1 → v0 ≤ v1 → 2 ^ s.params.hFieldBits ≤ h1.toNat ∨ 2 ^ s.params.vFieldBits ≤ v1.toNat →
      exec (.ltWindow k h0 h1 v0 v1) s = .next (s.refuse .fieldOverflow)) ∧
    (h0 ≤ h1 → v0 ≤ v1 → h1.toNat < 2 ^ s.params.hFieldBits → v1.toNat < 2 ^ s.params.vFieldBits →
      ∃ t, exec (.ltWindow k h0 h1 v0 v1) s = .next t ∧ t.continueFor 1 =
        { s.withShadow k (fun l => { l with
            whpcr := s.params.windowH h1.toNat h0.toNat
            wvpcr := s.params.windowV v1.toNat v0.toNat }) with ctx := Ctx.idle } ∧
        (s.params.layoutOk = true →
          let q := s.fields.layer
          let l := ((t.continueFor 1).layer k.toNat).shadow
          (q.whpcr.high s.params.hFieldBits).get l.whpcr = h1.toNat ∧
          (q.whpcr.low s.params.hFieldBits).get l.whpcr = h0.toNat ∧
          (q.wvpcr.high s.params.vFieldBits).get l.wvpcr = v1.toNat ∧
          (q.wvpcr.low s.params.vFieldBits).get l.wvpcr = v0.toNat))

/-- R275: LT_WINDOW_XYWH: the window is placed from the back-porch boundaries that BPCR holds at its read, and the two window
registers read as stop and start, field by field. That their fields are H_FIELD_BITS and V_FIELD_BITS wide, whatever
these are, is the model's choice (log 32). -/
def Obligations.WindowXywhResult : Prop :=
  ∀ (s : State) (k : Byte) (x y w h : BitVec 16), 1 ≤ k.toNat → k.toNat ≤ s.layers.length →
    let ahbp := (s.fields.bpcr.high s.params.hFieldBits).get s.bpcr
    let avbp := (s.fields.bpcr.low s.params.vFieldBits).get s.bpcr
    (w = 0 ∨ h = 0 → exec (.ltWindowXywh k x y w h) s = .next (s.refuse .badOperand)) ∧
    (w ≠ 0 → h ≠ 0 → ahbp + x.toNat + w.toNat < 2 ^ s.params.hFieldBits →
      avbp + y.toNat + h.toNat < 2 ^ s.params.vFieldBits →
      ∃ t, exec (.ltWindowXywh k x y w h) s = .next t ∧ t.continueFor 2 =
        { (s.regRead .bpcr).withShadow k (fun l => { l with
            whpcr := s.params.windowH (ahbp + x.toNat + w.toNat) (ahbp + 1 + x.toNat)
            wvpcr := s.params.windowV (avbp + y.toNat + h.toNat) (avbp + 1 + y.toNat) }) with ctx := Ctx.idle } ∧
        (s.params.layoutOk = true →
          let q := s.fields.layer
          let l := ((t.continueFor 2).layer k.toNat).shadow
          (q.whpcr.high s.params.hFieldBits).get l.whpcr = ahbp + x.toNat + w.toNat ∧
          (q.whpcr.low s.params.hFieldBits).get l.whpcr = ahbp + 1 + x.toNat ∧
          (q.wvpcr.high s.params.vFieldBits).get l.wvpcr = avbp + y.toNat + h.toNat ∧
          (q.wvpcr.low s.params.vFieldBits).get l.wvpcr = avbp + 1 + y.toNat)) ∧
    (w ≠ 0 → h ≠ 0 → 2 ^ s.params.hFieldBits ≤ ahbp + x.toNat + w.toNat ∨
      2 ^ s.params.vFieldBits ≤ avbp + y.toNat + h.toNat →
      ∃ t, exec (.ltWindowXywh k x y w h) s = .next t ∧ t.continueFor 1 = t.refuse .fieldOverflow)

/-- R276, R278 to R281, R284: the operations that write one register: the background colour at once, the others the shadow copy of
one layer. -/
def Obligations.SingleWriteResults : Prop :=
  (∀ (s : State) (rgb : Word),
    (rgb.toNat < 2 ^ 24 →
      exec (.ltBgcolor rgb) s = .next { s with bccr := s.fields.bccr.word rgb, ctx := Ctx.idle } ∧
      (s.params.layoutOk = true → let w := s.fields.bccr.word rgb
        s.fields.bccr.blue.get w = rgb.toNat % 256 ∧ s.fields.bccr.green.get w = rgb.toNat / 256 % 256 ∧
        s.fields.bccr.red.get w = rgb.toNat / 65536 % 256)) ∧
    (2 ^ 24 ≤ rgb.toNat → exec (.ltBgcolor rgb) s = .next (s.refuse .badOperand))) ∧
  ∀ (s : State) (k : Byte), 1 ≤ k.toNat → k.toNat ≤ s.layers.length →
    let m := s.fields.layer
    (∀ pf : Byte, pf.toNat < 8 → exec (.ltPixelFormat k pf) s =
      .next { s.withShadow k (fun l => { l with pfcr := m.pf.put pf.toNat }) with ctx := Ctx.idle }) ∧
    (s.params.layoutOk = true → ∀ argb : Word, exec (.ltDefaultColor k argb) s =
      .next { s.withShadow k (fun l => { l with dccr := argb }) with ctx := Ctx.idle }) ∧
    (∀ a : Byte, exec (.ltConstAlpha k a) s =
      .next { s.withShadow k (fun l => { l with cacr := m.consta.put a.toNat }) with ctx := Ctx.idle }) ∧
    (∀ bf1 bf2 : Byte, bf1 ∈ [4, 6] → bf2 ∈ [5, 7] → exec (.ltBlend k bf1 bf2) s =
      .next { s.withShadow k (fun l => { l with bfcr := m.bf1.put bf1.toNat ||| m.bf2.put bf2.toNat }) with
        ctx := Ctx.idle }) ∧
    (∀ bf1 bf2 : Byte, bf1 ∉ [4, 6] ∨ bf2 ∉ [5, 7] → exec (.ltBlend k bf1 bf2) s = .next (s.refuse .badOperand)) ∧
    (s.params.layoutOk = true → ∀ addr : Word, exec (.ltFbAddr k addr) s =
      .next { s.withShadow k (fun l => { l with cfbar := addr }) with ctx := Ctx.idle }) ∧
    (s.params.layoutOk = true →
      (∀ v < 8, m.pf.get (m.pf.put v) = v) ∧ (∀ v < 256, m.consta.get (m.consta.put v) = v) ∧
      ∀ v < 8, ∀ u < 8, m.bf1.get (m.bf1.put v ||| m.bf2.put u) = v ∧ m.bf2.get (m.bf1.put v ||| m.bf2.put u) = u)

/-- R277, R291, R292: LT_POLARITY, LT_DITHER_ENABLE and LT_ENABLE change their own fields of GCR and keep the others. -/
def Obligations.GlobalControlResults : Prop :=
  ∀ s : State, s.params.layoutOk = true →
    let m := s.fields.gcr
    let keeps := fun (g : Word) (fs : List BitField) =>
      (∀ f ∈ fs, f.get g = f.get s.gcr) ∧ g &&& ~~~s.params.mask .gcr = 0
    (∀ hs vs de pc : Bool, let bit := fun b : Bool => (BitVec.ofBool b).setWidth 8
      ∃ t g, exec (.ltPolarity (bit hs) (bit vs) (bit de) (bit pc)) s = .next t ∧
        t.continueFor 1 = { s.regRead .gcr with gcr := g, ctx := Ctx.idle } ∧
        m.hspol.isSet g = hs ∧ m.vspol.isSet g = vs ∧ m.depol.isSet g = de ∧ m.pcpol.isSet g = pc ∧
        keeps g [m.ltdcen, m.den, m.dbw, m.dgw, m.drw]) ∧
    (∃ t g, exec .ltDitherEnable s = .next t ∧ t.continueFor 1 = { s.regRead .gcr with gcr := g, ctx := Ctx.idle } ∧
      m.den.isSet g = true ∧ keeps g [m.ltdcen, m.dbw, m.dgw, m.drw, m.hspol, m.vspol, m.depol, m.pcpol]) ∧
    (∃ t g, exec .ltEnable s = .next t ∧ t.continueFor 1 = { s.regRead .gcr with gcr := g, ctx := Ctx.idle } ∧
      m.ltdcen.isSet g = true ∧ keeps g [m.den, m.dbw, m.dgw, m.drw, m.hspol, m.vspol, m.depol, m.pcpol])

/-- R282, R283, R286: LT_COLOR_KEY, LT_LINE_CONFIG and LT_LAYER_ENABLE. The checks of R283 are against the widths of the fields:
13, 13 and 11 bits in the default map (log 33). -/
def Obligations.LayerConfigResults : Prop :=
  ∀ (s : State) (k : Byte), 1 ≤ k.toNat → k.toNat ≤ s.layers.length →
    let m := s.fields.layer
    let set := fun (f : BitField) (w : Word) => (w &&& (s.params.mask (.layer k.toNat .cr) &&& ~~~f.mask)) ||| f.put 1
    (∀ key : Word, key.toNat < 2 ^ 24 → ∃ t, exec (.ltColorKey k 0 key) s = .next t ∧ t.continueFor 2 =
      { (s.withShadow k (fun l => { l with ckcr := m.ckcr.word key })).regRead (.layer k.toNat .cr) |>.withShadow k
          (fun l => { l with cr := set m.colken l.cr }) with ctx := Ctx.idle }) ∧
    (∀ key : Word, key.toNat < 2 ^ 16 → ∃ t, exec (.ltColorKey k 1 key) s = .next t ∧ t.continueFor 2 =
      { (s.withShadow k (fun l => { l with ckcr := m.ckcr.word ((rgb565To888 s.params (key.setWidth 16)).setWidth 32) })).regRead
          (.layer k.toNat .cr) |>.withShadow k (fun l => { l with cr := set m.colken l.cr }) with ctx := Ctx.idle }) ∧
    (∀ key : Word, 2 ^ 16 ≤ key.toNat → exec (.ltColorKey k 1 key) s = .next (s.refuse .badOperand)) ∧
    (∀ (width lines : BitVec 16) (bpp : Byte), width ≠ 0 → 1 ≤ bpp.toNat → bpp.toNat ≤ 4 →
      let len := width.toNat * bpp.toNat
      let pitch := (len + 63) / 64 * 64
      (len + s.params.cfbllBias < 2 ^ m.cfbll.width → pitch < 2 ^ m.cfbp.width → lines.toNat < 2 ^ m.cfblnbr.width →
        ∃ t, exec (.ltLineConfig k width bpp lines) s = .next t ∧ t.continueFor 1 =
          { s.withShadow k (fun l => { l with
              cfblr := m.cfbp.put pitch ||| m.cfbll.put (len + s.params.cfbllBias)
              cfblnr := m.cfblnbr.put lines.toNat }) with ctx := Ctx.idle }) ∧
      (2 ^ m.cfbll.width ≤ len + s.params.cfbllBias ∨ 2 ^ m.cfbp.width ≤ pitch ∨ 2 ^ m.cfblnbr.width ≤ lines.toNat →
        exec (.ltLineConfig k width bpp lines) s = .next (s.refuse .fieldOverflow))) ∧
    (∀ (width lines : BitVec 16) (bpp : Byte), width = 0 ∨ bpp.toNat = 0 ∨ 4 < bpp.toNat →
      exec (.ltLineConfig k width bpp lines) s = .next (s.refuse .badOperand)) ∧
    (∃ t, exec (.ltLayerEnable k) s = .next t ∧ t.continueFor 1 =
      { (s.regRead (.layer k.toNat .cr)).withShadow k (fun l => { l with cr := set m.len l.cr }) with
        ctx := Ctx.idle }) ∧
    (s.params.layoutOk = true → ∀ w : Word,
      m.len.isSet (set m.len w) = true ∧ m.colken.get (set m.len w) = m.colken.get w ∧
      m.colken.isSet (set m.colken w) = true ∧ m.len.get (set m.colken w) = m.len.get w)

/-- R119, R285: LT_RGB565_TO_888 with the default expansion: each channel is `floor(v × 255 / max)`. -/
def Obligations.Rgb565Result : Prop :=
  ∀ (s : State) (c : BitVec 16), s.params.rgb565Expand = .normalize →
    let r := c.toNat / 2048 * 255 / 31
    let g := c.toNat / 32 % 64 * 255 / 63
    let b := c.toNat % 32 * 255 / 31
    r < 256 ∧ g < 256 ∧ b < 256 ∧
    exec (.ltRgb565To888 c) s = .next { s with res := some (.u24 (BitVec.ofNat 24 (65536 * r + 256 * g + b))) }

/-- R287, R288: LT_RELOAD and LT_READY. -/
def Obligations.ReloadHandshake : Prop :=
  ∀ s : State,
    (∀ m : Byte, (encode (.ltReload m)).head? = some 0x53) ∧ encode .ltReady = [0x54] ∧
    exec (.ltReload 0) s = .next { s with srcr := s.srcr ||| s.fields.imr.put 1, ctx := Ctx.idle } ∧
    exec (.ltReload 1) s = .next { s with srcr := s.srcr ||| s.fields.vbr.put 1, ctx := Ctx.idle } ∧
    (∀ m : Byte, 2 ≤ m.toNat → exec (.ltReload m) s = .next (s.refuse .badOperand)) ∧
    exec .ltReady s =
      .next { s.regRead .srcr with res := some (.bool (s.fields.imr.get s.srcr == 0 && s.fields.vbr.get s.srcr == 0)) } ∧
    (s.params.layoutOk = true → ∀ w : Word,
      s.fields.imr.isSet (w ||| s.fields.imr.put 1) = true ∧ s.fields.vbr.isSet (w ||| s.fields.vbr.put 1) = true ∧
      s.fields.vbr.get (w ||| s.fields.imr.put 1) = s.fields.vbr.get w ∧
      s.fields.imr.get (w ||| s.fields.vbr.put 1) = s.fields.imr.get w)

/-- R289: the LTDC agent's two steps. -/
def Obligations.LtdcStepResults : Prop :=
  (∀ s : State, s.params.ltdcResponds = false → s.ltdcReloadStep = s ∧ s.ltdcVBlankStep = s) ∧
  (∀ s : State, s.params.ltdcResponds = true →
    let copied := s.layers.map fun l => { l with active := l.shadow }
    (s.imr = true → s.ltdcReloadStep =
      { s with layers := copied, srcr := s.srcr &&& ~~~s.fields.imr.mask,
               ltdcLog := s.ltdcLog ++ [.reload .immediate s.cyccnt] }) ∧
    (s.ltdcEnabled = true → s.vbr = true → s.ltdcVBlankStep =
      { s with layers := copied, srcr := s.srcr &&& ~~~s.fields.vbr.mask,
               ltdcLog := s.ltdcLog ++ [.vblank s.cyccnt, .reload .verticalBlank s.cyccnt] }) ∧
    (s.ltdcEnabled = true → s.vbr = false → s.ltdcVBlankStep =
      { s with ltdcLog := s.ltdcLog ++ [.vblank s.cyccnt] }) ∧
    (s.imr = false → s.ltdcReloadStep = s) ∧ (s.ltdcEnabled = false → s.ltdcVBlankStep = s)) ∧
  (∀ (s : State) (w : Word), s.params.layoutOk = true →
    s.fields.imr.get (w &&& ~~~s.fields.imr.mask) = 0 ∧ s.fields.vbr.get (w &&& ~~~s.fields.imr.mask) = s.fields.vbr.get w ∧
    s.fields.vbr.get (w &&& ~~~s.fields.vbr.mask) = 0 ∧ s.fields.imr.get (w &&& ~~~s.fields.vbr.mask) = s.fields.imr.get w)

/-- R53, R293, R295: no step but a reload of the LTDC agent changes an active layer register, and no step at all changes an active
register except to its shadow value. -/
def Obligations.ActiveChangesOnlyByReload : Prop :=
  ∀ (s t : State), step s = .next t → t.layers.length = s.layers.length ∧
    (s.mover ≠ .ltdcReload → s.mover ≠ .ltdcVBlank → t.layers.map Layer.active = s.layers.map Layer.active) ∧
    (t.layers.map Layer.active = s.layers.map Layer.active ∨
      (t.layers.map Layer.active = s.layers.map Layer.shadow ∧ t.layers.map Layer.shadow = s.layers.map Layer.shadow))

/-- R249, R294: the waits that never end, under every schedule: BUSY with an FMC that does not respond, a pending reload with an
LTDC that does not respond, a vertical-blank reload with the controller disabled. The interrupt program is empty.
The last is said of a register layout (log 8): where IMR and VBR shared a bit an immediate reload would clear both. -/
def Obligations.WaitsThatHang : Prop :=
  ∀ (s t : State) (h : HostStep) (rest : List HostStep) (k : Nat),
    s.params.irqProgram = [] → s.irq = none → s.ctx.todo = h :: rest → runFor k s = .next t →
    (h.act = .pollReady → s.busyRead = true → s.params.fmcResponds = false →
      t.ctx.todo = h :: rest ∧ t.busyRead = true) ∧
    (h.act = .pollReload → s.reloadReady = false → s.params.ltdcResponds = false →
      t.ctx.todo = h :: rest ∧ t.reloadReady = false) ∧
    (s.params.layoutOk = true → h.act = .pollReload → s.vbr = true → s.ltdcEnabled = false → t.ctx.todo = h :: rest ∧ t.vbr = true)

/-- R301: the refusals of LT_SETUP, all before the first write: operands outside a legal set (a record that is not of its type,
an empty list, a list that is too long or repeats a layer, a sync of 0, a blend code, a window of width or height 0, an
RGB565 key of 2^16 or more), and values that do not fit (the timing sums of R271, the window computed from them, the line
values of R283). Operands come first where both hold (log 15). And conversely: a record whose operands are all legal and whose
values all fit is not refused, and its first host step writes the background colour and nothing else. -/
def Obligations.SetupRefusals : Prop :=
  [0, 1, 2, 3, 4, 5, 6, 7].map bytesPerPixel = [4, 3, 2, 2, 2, 1, 1, 2] ∧
  ∀ (s : State) (c : LtdcConfig),
    (let n := s.layers.length
     let hbp := c.timing.hSync.toNat - 1 + c.timing.hBackPorch.toNat
     let vbp := c.timing.vSync.toNat - 1 + c.timing.vBackPorch.toNat
     c.bg.toNat < 2 ^ 24 → c.hs.toNat < 2 → c.vs.toNat < 2 → c.de.toNat < 2 → c.pc.toNat < 2 → c.layers ≠ [] →
     c.layers.length ≤ n → c.layers.Pairwise (fun a b => a.layer ≠ b.layer) → c.timing.hSync ≠ 0 → c.timing.vSync ≠ 0 →
     hbp + c.timing.hActive.toNat + c.timing.hFrontPorch.toNat < 2 ^ s.params.hFieldBits →
     vbp + c.timing.vActive.toNat + c.timing.vFrontPorch.toNat < 2 ^ s.params.vFieldBits →
     (∀ l ∈ c.layers, let len := l.w.toNat * bytesPerPixel l.pf
       1 ≤ l.layer.toNat ∧ l.layer.toNat ≤ n ∧ l.pf.toNat < 8 ∧ l.bf1.toNat ∈ [4, 6] ∧ l.bf2.toNat ∈ [5, 7] ∧
       l.w ≠ 0 ∧ l.h ≠ 0 ∧
       (∀ k, l.colorKey = some k → k.fmt.toNat = 0 ∧ k.key.toNat < 2 ^ 24 ∨ k.fmt.toNat = 1 ∧ k.key.toNat < 2 ^ 16) ∧
       hbp + l.x.toNat + l.w.toNat < 2 ^ s.params.hFieldBits ∧ vbp + l.y.toNat + l.h.toNat < 2 ^ s.params.vFieldBits ∧
       len + s.params.cfbllBias < 2 ^ s.fields.layer.cfbll.width ∧
       (len + 63) / 64 * 64 < 2 ^ s.fields.layer.cfbp.width ∧ l.h.toNat < 2 ^ s.fields.layer.cfblnbr.width) →
     setupRefusal n s.params c = none ∧ ∃ t, exec (.ltSetup c) s = .next t ∧ t.ctx.todo ≠ [] ∧
       t = { s with bccr := t.bccr, ctx := t.ctx }) ∧
    (c.layers = [] ∨ s.layers.length < c.layers.length ∨ distinctLayers c.layers = false ∨ c.timing.hSync = 0 ∨
      c.timing.vSync = 0 → exec (.ltSetup c) s = .next (s.refuse .badOperand)) ∧
    (∀ l ∈ c.layers, blendOk l.bf1 l.bf2 = false ∨ l.w = 0 ∨ l.h = 0 ∨
      (∃ k, l.colorKey = some k ∧ k.fmt = 1 ∧ 2 ^ 16 ≤ k.key.toNat) →
      exec (.ltSetup c) s = .next (s.refuse .badOperand)) ∧
    (setupRefusal s.layers.length s.params c ≠ some .badOperand →
      let hbp := c.timing.hSync.toNat - 1 + c.timing.hBackPorch.toNat
      let vbp := c.timing.vSync.toNat - 1 + c.timing.vBackPorch.toNat
      (2 ^ s.params.hFieldBits ≤ hbp + c.timing.hActive.toNat + c.timing.hFrontPorch.toNat ∨
        2 ^ s.params.vFieldBits ≤ vbp + c.timing.vActive.toNat + c.timing.vFrontPorch.toNat →
        exec (.ltSetup c) s = .next (s.refuse .fieldOverflow)) ∧
      ∀ l ∈ c.layers, let len := l.w.toNat * bytesPerPixel l.pf
        2 ^ s.params.hFieldBits ≤ hbp + l.x.toNat + l.w.toNat ∨ 2 ^ s.params.vFieldBits ≤ vbp + l.y.toNat + l.h.toNat ∨
        2 ^ s.fields.layer.cfbll.width ≤ len + s.params.cfbllBias ∨
        2 ^ s.fields.layer.cfbp.width ≤ (len + 63) / 64 * 64 ∨ 2 ^ s.fields.layer.cfblnbr.width ≤ l.h.toNat →
        exec (.ltSetup c) s = .next (s.refuse .fieldOverflow))

/-- R300, R302 and the law that the spec derives from them (its R304): LT_SETUP from a machine with no reload pending and its
layers disabled (log 15: the setup never clears an enable), with the LTDC completing an immediate reload after every host
step that requests one, returns with the registers that the law gives: every global register, and of each configured
layer every register that its sub-operations write. That the window fields are H_FIELD_BITS and V_FIELD_BITS wide,
whatever these are, is the model's choice (log 32). -/
def Obligations.SetupEndState : Prop :=
  ∀ (s : State) (c : LtdcConfig), s.params.layoutOk = true → s.regInv = true → s.params.ltdcResponds = true → s.srcr = 0 →
    setupRefusal s.layers.length s.params c = none →
    (∀ l ∈ c.layers, s.fields.layer.len.isSet (s.layer l.layer.toNat).shadow.cr = false) →
    let m := s.fields
    let hbp := c.timing.hSync.toNat - 1 + c.timing.hBackPorch.toNat
    let vbp := c.timing.vSync.toNat - 1 + c.timing.vBackPorch.toNat
    ∃ (t : State) (n : Nat), exec (.ltSetup c) s = .next t ∧
      let u := iterState State.ltdcRound n t
      u.ctx = Ctx.idle ∧ u.srcr = 0 ∧ m.gcr.ltdcen.isSet u.gcr = true ∧ m.gcr.den.isSet u.gcr = true ∧
      m.gcr.hspol.isSet u.gcr = (c.hs == 1) ∧ m.gcr.vspol.isSet u.gcr = (c.vs == 1) ∧
      m.gcr.depol.isSet u.gcr = (c.de == 1) ∧ m.gcr.pcpol.isSet u.gcr = (c.pc == 1) ∧ u.bccr = m.bccr.word c.bg ∧
      u.sscr = s.params.boundary m.sscr (c.timing.hSync.toNat - 1) (c.timing.vSync.toNat - 1) ∧
      u.bpcr = s.params.boundary m.bpcr hbp vbp ∧
      u.awcr = s.params.boundary m.awcr (hbp + c.timing.hActive.toNat) (vbp + c.timing.vActive.toNat) ∧
      u.twcr = s.params.boundary m.twcr (hbp + c.timing.hActive.toNat + c.timing.hFrontPorch.toNat)
        (vbp + c.timing.vActive.toNat + c.timing.vFrontPorch.toNat) ∧
      u.faulted = s.faulted ∧ u.refused = s.refused ∧ u.imask = s.imask ∧
      ∀ l ∈ c.layers, let a := (u.layer l.layer.toNat).active
        let len := l.w.toNat * bytesPerPixel l.pf
        (u.layer l.layer.toNat).shadow = a ∧ m.layer.len.isSet a.cr = l.fbAddr.isSome ∧
        a.pfcr = m.layer.pf.put l.pf.toNat ∧ a.dccr = l.defaultColor ∧ a.cacr = m.layer.consta.put l.constAlpha.toNat ∧
        a.bfcr = m.layer.bf1.put l.bf1.toNat ||| m.layer.bf2.put l.bf2.toNat ∧
        a.whpcr = s.params.windowH (hbp + l.x.toNat + l.w.toNat) (hbp + 1 + l.x.toNat) ∧
        a.wvpcr = s.params.windowV (vbp + l.y.toNat + l.h.toNat) (vbp + 1 + l.y.toNat) ∧
        (∀ addr, l.fbAddr = some addr → a.cfbar = addr) ∧
        a.cfblr = m.layer.cfbp.put ((len + 63) / 64 * 64) ||| m.layer.cfbll.put (len + s.params.cfbllBias) ∧
        a.cfblnr = m.layer.cfblnbr.put l.h.toNat ∧
        (∀ key, l.colorKey = some key → m.layer.colken.isSet a.cr = true ∧
          a.ckcr = m.layer.ckcr.word
            (if key.fmt = 1 then (rgb565To888 s.params (key.key.setWidth 16)).setWidth 32 else key.key))

/-! ### System operations, interrupts -/

/-- R330, R331: CS_ENTER and CS_EXIT. -/
def Obligations.CriticalSectionResults : Prop :=
  ∀ s : State, encode .csEnter = [0x70] ∧ encode .csExit = [0x71] ∧
    exec .csEnter s = .next { s with csStack := s.imask :: s.csStack, imask := true, ctx := Ctx.idle } ∧
    (s.csStack = [] → exec .csExit s = .next (s.refuse .unbalancedCriticalSection)) ∧
    (∀ m ms, s.csStack = m :: ms → exec .csExit s = .next { s with imask := m, csStack := ms, ctx := Ctx.idle })

/-- R226, R332 to R334, R383: RCC_FMC_ENABLE; CLK_FREQ; RCC_FMC_RESET_PULSE: at the assert every FMC register takes its reset value
and the pending command is discarded, SEQ_PHASE is kept, and a pulse in LIVE is remembered. -/
def Obligations.ClockProviderResults : Prop :=
  ∀ s : State, encode .rccFmcEnable = [0x72] ∧ encode .rccFmcResetPulse = [0x73] ∧ encode .clkFreq = [0x74] ∧
    exec .clkFreq s = .next { s with res := some (.hz s.params.clkHz) } ∧
    (s.params.layoutOk = true →
      (∃ t, exec .rccFmcEnable s = .next t ∧ t.ctx.todo ≠ [] ∧
        t.continueFor 1 = { s.regRead .ahb3enr with fmcen := true, ctx := Ctx.idle }) ∧
      ∃ t, exec .rccFmcResetPulse s = .next t ∧
        (t.continueFor 1).fmcrst = true ∧ (t.continueFor 1).fmcAtReset = true ∧
        t.continueFor 3 =
          { s with
            fmcrst := false
            sdcr1 := s.params.resetWord .sdcr1
            sdcr2 := s.params.resetWord .sdcr2
            sdtr1 := s.params.resetWord .sdtr1
            sdtr2 := s.params.resetWord .sdtr2
            sdcmr := s.params.resetWord .sdcmr
            sdrtr := s.params.resetWord .sdrtr
            busy := false
            fmcPending := none
            seqResetAfterLive := s.seqResetAfterLive || s.seqPhase == .live
            draws := s.draws + 2
            lastRead := some (.reg .ahb3rstr (s.fields.fmcrst.put 1) (s.draws + 1))
            ctx := Ctx.idle })

/-- R35, R89, R344, R347, R348: an activation begins only between two host steps with interrupts unmasked, keeps the host's
position, and does not nest; while IMASK is true none begins; while one is in progress the host has no step; its last
step, be it the whole of its last item or the last host step of one that has several, resumes the host where it was
preempted, and with another CS_STACK than at its start that step is refused and has no other effect. Any other step is the
first host step of the next item, which is the operation's own or the one raw access, or the next host step of the
operation in progress. -/
def Obligations.InterruptActivations : Prop :=
  (∀ s : State,
    (s.stopped = false → s.irq = none → s.imask = false → s.params.irqProgram ≠ [] →
      irqStepWith exec s = .next { s with irq := some ⟨s.ctx, s.params.irqProgram, s.csStack⟩, ctx := Ctx.idle }) ∧
    (s.irq = none → s.imask = true → irqStepWith exec s = .next s ∧ ∀ t, step s = .next t → t.irq = none) ∧
    (s.irq ≠ none → hostStepWith exec s = .next s)) ∧
  (∀ (s t : State) (a : Activation) (i : IrqItem), s.stopped = false → s.irq = some a → s.ctx.todo = [] → a.rest = [i] →
    irqItemWith exec i { s with irq := some { a with rest := [] } } = .next t → t.stopped = false → t.ctx.todo = [] →
    (t.csStack = a.csStart → irqStepWith exec s = .next { t with ctx := a.saved, irq := none }) ∧
    (t.csStack ≠ a.csStart → irqStepWith exec s = .next (s.refuse .unbalancedCriticalSection))) ∧
  (∀ (s t : State) (a : Activation) (i : IrqItem) (rest : List IrqItem), s.stopped = false → s.irq = some a →
    s.ctx.todo = [] → a.rest = i :: rest → irqItemWith exec i { s with irq := some { a with rest := rest } } = .next t →
    t.stopped = true ∨ t.ctx.todo ≠ [] ∨ rest ≠ [] → irqStepWith exec s = .next t) ∧
  (∀ (s : State) (r : Reg) (w : Word),
    (∀ i, irqItemWith exec (.op i) s = exec i s) ∧
    (s.regPresent r = true → irqItemWith exec (.regRead r) s = .next (s.regRead r) ∧
      (∀ t, s.regWrite r w = .ok t → irqItemWith exec (.regWrite r w) s = .next t) ∧
      ∀ f, s.regWrite r w = .error f → irqItemWith exec (.regWrite r w) s = .next (s.raiseFault f))) ∧
  (∀ (s : State) (a : Activation), s.stopped = false → s.irq = some a → s.ctx.todo ≠ [] →
    let t := s.continueOp
    (t.stopped = true ∨ t.ctx.todo ≠ [] ∨ a.rest ≠ [] → irqStepWith exec s = .next t) ∧
    (t.stopped = false → t.ctx.todo = [] → a.rest = [] →
      (t.csStack = a.csStart → irqStepWith exec s = .next { t with ctx := a.saved, irq := none }) ∧
      (t.csStack ≠ a.csStart → irqStepWith exec s = .next (s.refuse .unbalancedCriticalSection))))

/-- R245, R251: interrupt code that writes FMC_SDCMR while a command is pending faults; once SD_SEND_CMD has made its first step
no activation can begin (PhasesInOrder says the same of a bring-up). -/
def Obligations.MailboxHazard : Prop :=
  (∀ (s : State) (w : Word), s.fmcWritable = true → s.busy = true →
    irqItemWith exec (.regWrite .sdcmr w) s = .next (s.raiseFault .commandCorrupted)) ∧
  (∀ (s t : State) (bank mode nrfs : Byte) (mrd : BitVec 16), s.irq = none →
    exec (.sdSendCmd bank mode nrfs mrd) s = .next t → t.stopped = false → t.irqMayBegin = false)

end
end

