-- ==== Sys2Proof/Laws/Codec.lean ====
section
/-! SUPPORT. The byte codecs of the operand records read back what they write (log 4), and the opcode map is one to one. -/

namespace Sys2Proof

@[simp] theorem get8_cons (b : Byte) (r : List Byte) : get8 (b :: r) = some (b, r) := rfl

@[simp] theorem get32_put32 (v : Word) (r : List Byte) : get32 (put32 v ++ r) = some (v, r) := by
  simp only [put32, get32, List.cons_append, List.nil_append, Option.some.injEq, Prod.mk.injEq, and_true]
  rw [BitVec.extractLsb'_append_extractLsb'_eq_extractLsb' (by rfl),
    BitVec.extractLsb'_append_extractLsb'_eq_extractLsb' (by rfl),
    BitVec.extractLsb'_append_extractLsb'_eq_extractLsb' (by rfl)]
  simp

@[simp] theorem get16_put16 (v : BitVec 16) (r : List Byte) : get16 (put16 v ++ r) = some (v, r) := by
  simp only [put16, get16, List.cons_append, List.nil_append, Option.some.injEq, Prod.mk.injEq, and_true]
  rw [BitVec.extractLsb'_append_extractLsb'_eq_extractLsb' (by rfl)]
  simp

@[simp] theorem get64_put64 (v : DWord) (r : List Byte) : get64 (put64 v ++ r) = some (v, r) := by
  simp only [put64, get64, List.append_assoc, get32_put32, Option.pure_def, Option.bind_eq_bind, Option.bind_some]
  rw [BitVec.extractLsb'_append_extractLsb'_eq_extractLsb' (by rfl)]
  simp

@[simp] theorem getFreq_putFreq (f : Option Word) (r : List Byte) : getFreq (putFreq f ++ r) = some (f, r) := by
  cases f <;> simp [getFreq, putFreq, get8]

@[simp] theorem getDuration_putDuration (d : Duration) (r : List Byte) :
    getDuration (putDuration d ++ r) = some (d, r) := by
  obtain ⟨_ | _ | _ | _, f⟩ := d <;> simp [getDuration, putDuration, get8]

@[simp] theorem getTimingNs_put (t : TimingNs) (r : List Byte) : getTimingNs (putTimingNs t ++ r) = some (t, r) := by
  simp [getTimingNs, putTimingNs]

@[simp] theorem getTimingSpecNs_put (t : TimingSpecNs) (r : List Byte) :
    getTimingSpecNs (putTimingSpecNs t ++ r) = some (t, r) := by
  simp [getTimingSpecNs, putTimingSpecNs]

@[simp] theorem getGeometry_put (g : Geometry) (r : List Byte) : getGeometry (putGeometry g ++ r) = some (g, r) := by
  simp [getGeometry, putGeometry, get8]

@[simp] theorem getModeConfig_put (m : ModeConfig) (r : List Byte) :
    getModeConfig (putModeConfig m ++ r) = some (m, r) := by
  simp [getModeConfig, putModeConfig, get8]

@[simp] theorem getModeParams_put (m : ModeParams) (r : List Byte) :
    getModeParams (putModeParams m ++ r) = some (m, r) := by
  simp [getModeParams, putModeParams]

@[simp] theorem getSdramConfig_put (c : SdramConfig) (r : List Byte) :
    getSdramConfig (putSdramConfig c ++ r) = some (c, r) := by
  simp [getSdramConfig, putSdramConfig]

@[simp] theorem getDisplayTiming_put (t : DisplayTimingSpec) (r : List Byte) :
    getDisplayTiming (putDisplayTiming t ++ r) = some (t, r) := by
  simp [getDisplayTiming, putDisplayTiming]

@[simp] theorem getColorKey_put (k : Option ColorKey) (r : List Byte) :
    getColorKey (putColorKey k ++ r) = some (k, r) := by
  cases k <;> simp [getColorKey, putColorKey, get8]

@[simp] theorem getLayerConfig_put (l : LayerConfig) (r : List Byte) :
    getLayerConfig (putLayerConfig l ++ r) = some (l, r) := by
  simp (maxSteps := 2000000) only [getLayerConfig, putLayerConfig, List.append_assoc, List.cons_append, List.nil_append, get8_cons, get32_put32,
    get16_put16, getColorKey_put, getFreq_putFreq, Option.bind_eq_bind, Option.bind_some, Option.pure_def]

@[simp] theorem getLayers_put (ls : List LayerConfig) (r : List Byte) :
    getLayers ls.length (ls.flatMap putLayerConfig ++ r) = some (ls, r) := by
  induction ls with
  | nil => simp [getLayers]
  | cons l ls ih => simp [getLayers, ih]

theorem getLtdcConfig_put (c : LtdcConfig) (h : c.layers.length < 256) (r : List Byte) :
    getLtdcConfig (putLtdcConfig c ++ r) = some (c, r) := by
  have : (BitVec.ofNat 8 c.layers.length).toNat = c.layers.length := by simp; omega
  simp [getLtdcConfig, putLtdcConfig, get8, -BitVec.toNat_ofNat, this]

theorem opcodeOf_code (o : Opcode) : opcodeOf o.code = some o := by
  cases o <;> decide +kernel

theorem decode_of_code (o : Opcode) {r rest : List Byte} {i : Instr} (h : decodeRecord o r = some (i, rest)) :
    decode (o.code :: r) = .ok (i, rest) := by
  simp [decode, opcodeOf_code, h]

end Sys2Proof
end

