-- ==== Sys2Proof/Laws/Exec.lean ====
section
/-! SUPPORT. What an operation answers, said once: a mark, a result, a StopWatch, or the first of its host steps. -/

namespace Sys2Proof.Machine

/-- An act of an operation that enters no phase and writes no CYCCNT. -/
def plainAct : Act → Bool
  | .write .dwtCyccnt _ => false
  | .writeMod .dwtCyccnt _ _ => false
  | .enterBringup _ => false
  | .clockBranch => false
  | _ => true

/-- The host steps with which an operation may begin in state `s`. -/
inductive StepsFor (s : State) : List HostStep → Prop where
  | plain (acts : List Act) : acts.all plainAct = true → delaysPolled (plainSteps acts) = true →
      StepsFor s (plainSteps acts)
  | bringup (b : Bank) (sdcr sdtr : Word) (mr : BitVec 13) (refresh : BitVec 16) : s.seqPhase = .idle →
      StepsFor s (bringupSteps s.params b sdcr sdtr mr refresh)
  | setup (c : LtdcConfig) : setupRefusal s.numLayers s.params c = none →
      StepsFor s (numberedSteps 1 (setupOps s.params c))

/-- What an operation answers. -/
inductive ExecShape (s : State) : State → Prop where
  | refuse (r : Refusal) : ExecShape s (s.refuse r)
  | raise (f : Fault) : ExecShape s (s.raiseFault f)
  | res (v : Value) : ExecShape s (s.setRes v)
  | readRes (r : Reg) (v : Value) : ExecShape s ((s.regRead r).setRes v)
  | newWatch (h cap freq : Word) : freq ≠ 0 → 2 ≤ cap.toNat → s.watch h = none →
      ExecShape s (s.sample.setWatch h (newWatch cap freq s.cyccnt))
  | lap (h : Word) (w : StopWatch) : s.watch h = some w → ExecShape s (s.sample.setWatch h (w.lap s.cyccnt))
  | restart (h : Word) (w : StopWatch) : s.watch h = some w → ExecShape s (s.sample.setWatch h (w.restart s.cyccnt))
  | iter (h : Word) (w : StopWatch) (v : Value) : s.watch h = some w → ExecShape s ((s.setWatch h w.advance).setRes v)
  | steps (l : List HostStep) : StepsFor s l → ExecShape s (s.beginSteps l)

theorem ExecShape.acts (s : State) (l : List Act) (h : l.all plainAct = true) (d : delaysPolled (plainSteps l) = true) :
    ExecShape s (s.beginActs l) :=
  .steps _ (.plain l h d)

theorem ExecShape.delay (s : State) (t : DWord) : ExecShape s (s.beginDelay t) := by
  by_cases h : t = 0
  · subst h; exact .acts s _ rfl rfl
  · have e : delayActs t = [.delayStart t, .delayPoll] := if_neg h
    unfold State.beginDelay; rw [e]
    exact .acts s _ rfl (by simp [delaysPolled, plainSteps])

theorem ExecShape.delayOf (s : State) (e : Except Refusal DWord) : ExecShape s (s.beginDelayOf e) := by
  cases e
  · exact .refuse _
  · exact .delay s _

/-- Every operation answers a next state, of one of these shapes. -/
theorem exec_shape (i : Instr) (s : State) : ∃ t, exec i s = .next t ∧ ExecShape s t := by
  cases i with
  | ccNow => exact ⟨_, rfl, .readRes _ _⟩
  | ccElapsed a => exact ⟨_, rfl, .readRes _ _⟩
  | ccEnable => exact ⟨_, rfl, .acts s _ rfl rfl⟩
  | durToTicks d =>
    simp only [exec, execDurToTicks]
    repeat' split
    all_goals exact ⟨_, rfl, by first | exact .refuse _ | exact .res _⟩
  | dlyTicks t => exact ⟨_, rfl, .delay s _⟩
  | dlyUs n => exact ⟨_, rfl, .delay s _⟩
  | dlyMs n => exact ⟨_, rfl, .delay s _⟩
  | dlySF32 x => exact ⟨_, rfl, .delayOf s _⟩
  | dlySF64 x => exact ⟨_, rfl, .delayOf s _⟩
  | dlyDuration d =>
    simp only [exec, execDlyDuration]
    repeat' split
    all_goals exact ⟨_, rfl, by first | exact .refuse _ | exact .raise _ | exact .delay s _⟩
  | swNew hd cap freq =>
    simp only [exec, execSwNew]
    split
    · exact ⟨_, rfl, .refuse _⟩
    · rename_i hf; split
      · exact ⟨_, rfl, .refuse _⟩
      · split
        · exact ⟨_, rfl, .refuse _⟩
        · exact ⟨_, rfl, .newWatch _ _ _ (by intro e; subst e; exact hf rfl) (by omega) ‹_›⟩
  | swLap hd =>
    simp only [exec, execSwLap]
    split
    · exact ⟨_, rfl, .refuse _⟩
    · exact ⟨_, rfl, .lap _ _ ‹_›⟩
  | swLapTime hd n =>
    simp only [exec, execSwLapTime]
    split
    · exact ⟨_, rfl, .refuse _⟩
    · exact ⟨_, rfl, .res _⟩
  | swReset hd =>
    simp only [exec, execSwReset]
    split
    · exact ⟨_, rfl, .refuse _⟩
    · exact ⟨_, rfl, .restart _ _ ‹_›⟩
  | swIterNext hd =>
    simp only [exec, execSwIterNext]
    split
    · exact ⟨_, rfl, .refuse _⟩
    · exact ⟨_, rfl, .iter _ _ _ ‹_›⟩
  | tcNanosToCycles a b c d e =>
    simp only [exec, execTcNanosToCycles]
    split
    · exact ⟨_, rfl, .res _⟩
    · exact ⟨_, rfl, .refuse _⟩
  | tcRefreshCounter a b c d =>
    simp only [exec, execTcRefreshCounter]
    split
    · exact ⟨_, rfl, .res _⟩
    · exact ⟨_, rfl, .refuse _⟩
  | tcConvertSpec t f d =>
    simp only [exec, execTcConvertSpec]
    repeat' split
    all_goals exact ⟨_, rfl, by first | exact .refuse _ | exact .res _⟩
  | sdBringup b c =>
    simp only [exec, execSdBringup]
    split
    · exact ⟨_, rfl, .refuse _⟩
    · split
      · exact ⟨_, rfl, .refuse _⟩
      · split
        · exact ⟨_, rfl, .refuse _⟩
        · rename_i hp
          repeat' split
          all_goals exact ⟨_, rfl, by first
            | exact .refuse _ | exact .steps _ (.bringup _ _ _ _ _ (Classical.not_not.1 hp))⟩
  | sdSendCmd b m n d =>
    simp only [exec, execSdSendCmd]
    repeat' split
    all_goals exact ⟨_, rfl, by first | exact .refuse _ | exact .acts s _ rfl rfl⟩
  | sdWaitReady => exact ⟨_, rfl, .acts s _ rfl rfl⟩
  | sdModeWord mp =>
    simp only [exec, execSdModeWord]
    split
    · exact ⟨_, rfl, .refuse _⟩
    · exact ⟨_, rfl, .res _⟩
  | ltSetTiming t =>
    simp only [exec, execLtSetTiming]
    split
    · exact ⟨_, rfl, .refuse _⟩
    · exact ⟨_, rfl, .acts s _ rfl rfl⟩
  | ltWindow l a b c d =>
    simp only [exec, execLtWindow]
    repeat' split
    all_goals exact ⟨_, rfl, by first | exact .refuse _ | exact .acts s _ rfl rfl⟩
  | ltWindowXywh l a b c d =>
    simp only [exec, execLtWindowXywh]
    repeat' split
    all_goals exact ⟨_, rfl, by first | exact .refuse _ | exact .acts s _ rfl rfl⟩
  | ltReload m =>
    simp only [exec, execLtReload]
    split
    · exact ⟨_, rfl, .refuse _⟩
    · exact ⟨_, rfl, .acts s _ rfl rfl⟩
  | ltReady => exact ⟨_, rfl, .readRes _ _⟩
  | ltWaitReady => exact ⟨_, rfl, .acts s _ rfl rfl⟩
  | ltBgcolor c =>
    simp only [exec, execLtBgcolor]
    split <;> exact ⟨_, rfl, by first | exact .refuse _ | exact .acts s _ rfl rfl⟩
  | ltPolarity a b c d =>
    simp only [exec, execLtPolarity]
    split <;> exact ⟨_, rfl, by first | exact .refuse _ | exact .acts s _ rfl rfl⟩
  | ltPixelFormat l p =>
    simp only [exec, execLtPixelFormat]
    split <;> exact ⟨_, rfl, by first | exact .refuse _ | exact .acts s _ rfl rfl⟩
  | ltDefaultColor l c =>
    simp only [exec, execLtDefaultColor]
    split <;> exact ⟨_, rfl, by first | exact .refuse _ | exact .acts s _ rfl rfl⟩
  | ltConstAlpha l a =>
    simp only [exec, execLtConstAlpha]
    split <;> exact ⟨_, rfl, by first | exact .refuse _ | exact .acts s _ rfl rfl⟩
  | ltBlend l a b =>
    simp only [exec, execLtBlend]
    split <;> exact ⟨_, rfl, by first | exact .refuse _ | exact .acts s _ rfl rfl⟩
  | ltColorKey l f c =>
    simp only [exec, execLtColorKey]
    split <;> exact ⟨_, rfl, by first | exact .refuse _ | exact .acts s _ rfl rfl⟩
  | ltLineConfig l w b n =>
    simp only [exec, execLtLineConfig]
    repeat' split
    all_goals exact ⟨_, rfl, by first | exact .refuse _ | exact .acts s _ rfl rfl⟩
  | ltFbAddr l a =>
    simp only [exec, execLtFbAddr]
    split <;> exact ⟨_, rfl, by first | exact .refuse _ | exact .acts s _ rfl rfl⟩
  | ltLayerEnable l =>
    simp only [exec, execLtLayerEnable]
    split <;> exact ⟨_, rfl, by first | exact .refuse _ | exact .acts s _ rfl rfl⟩
  | ltDitherEnable => exact ⟨_, rfl, .acts s _ rfl rfl⟩
  | ltEnable => exact ⟨_, rfl, .acts s _ rfl rfl⟩
  | ltSetup c =>
    simp only [exec, execLtSetup]
    split
    · exact ⟨_, rfl, .refuse _⟩
    · exact ⟨_, rfl, .steps _ (.setup c ‹_›)⟩
  | ltRgb565To888 c => exact ⟨_, rfl, .res _⟩
  | csEnter => exact ⟨_, rfl, .acts s _ rfl rfl⟩
  | csExit => exact ⟨_, rfl, .acts s _ rfl rfl⟩
  | rccFmcEnable => exact ⟨_, rfl, .acts s _ rfl rfl⟩
  | rccFmcResetPulse => exact ⟨_, rfl, .acts s _ rfl rfl⟩
  | clkFreq => exact ⟨_, rfl, .res _⟩
  | sdcmdClk a b c d => exact ⟨_, rfl, .acts s _ rfl rfl⟩
  | sdcmdPall a b c d => exact ⟨_, rfl, .acts s _ rfl rfl⟩
  | sdcmdAref a b c d => exact ⟨_, rfl, .acts s _ rfl rfl⟩
  | sdcmdLmr a b c d => exact ⟨_, rfl, .acts s _ rfl rfl⟩

/-- An operation that answers `t`. -/
theorem shape_of_exec {i : Instr} {s t : State} (e : exec i s = .next t) : ExecShape s t := by
  obtain ⟨u, hu, hs⟩ := exec_shape i s
  rw [hu] at e; cases e; exact hs

end Sys2Proof.Machine
end

