-- ==== Sys2Proof/Laws/Layout.lean ====
section
/-! SUPPORT. Fields of a register word, bit by bit (00_scope.md R15): what a field reads after it is written, and after another
field is written. -/

namespace Sys2Proof

@[simp] theorem BitField.mask_bit (f : BitField) (i : Nat) :
    f.mask.getLsbD i = (decide (i < 32) && (decide (f.pos ≤ i) && decide (i - f.pos < f.width))) := by
  simp [BitField.mask, BitVec.getLsbD_ofNat, Nat.testBit_mul_two_pow, Nat.testBit_two_pow_sub_one]

@[simp] theorem BitField.put_bit (f : BitField) (v i : Nat) :
    (f.put v).getLsbD i =
      (decide (i < 32) && (decide (f.pos ≤ i) && (decide (i - f.pos < f.width) && v.testBit (i - f.pos)))) := by
  simp [BitField.put, BitVec.getLsbD_ofNat, Nat.testBit_mul_two_pow, Nat.testBit_mod_two_pow]

@[simp] theorem BitField.get_bit (f : BitField) (w : Word) (j : Nat) :
    (f.get w).testBit j = (decide (j < f.width) && w.getLsbD (f.pos + j)) := by
  rw [BitField.get, Nat.testBit_mod_two_pow, Nat.testBit_div_two_pow, BitVec.testBit_toNat, Nat.add_comm]

/-- A field reads what was put into it. -/
theorem BitField.get_put (f : BitField) (v : Nat) (h : f.pos + f.width ≤ 32) : f.get (f.put v) = v % 2 ^ f.width := by
  refine Nat.eq_of_testBit_eq fun j => ?_
  rw [f.get_bit, f.put_bit, Nat.testBit_mod_two_pow]
  by_cases hj : j < f.width
  · have : f.pos + j < 32 := by omega
    simp [hj, this]
  · simp [hj]

/-- A value that fits is read back. -/
theorem BitField.get_put_of_lt (f : BitField) (v : Nat) (h : f.pos + f.width ≤ 32) (hv : v < 2 ^ f.width) :
    f.get (f.put v) = v := by
  rw [f.get_put v h, Nat.mod_eq_of_lt hv]

/-- A word is put together of fields that are apart: each reads its own. -/
theorem BitField.get_or_put (f g : BitField) (w : Word) (v : Nat) (h : f.apart g = true) : f.get (w ||| g.put v) = f.get w := by
  refine Nat.eq_of_testBit_eq fun j => ?_
  simp only [BitField.apart, Bool.or_eq_true, decide_eq_true_eq] at h
  by_cases hj : j < f.width
  · have : ¬ (g.pos ≤ f.pos + j ∧ f.pos + j - g.pos < g.width) := by omega
    have : (decide (g.pos ≤ f.pos + j) && (decide (f.pos + j - g.pos < g.width) && v.testBit (f.pos + j - g.pos))) = false := by
      simp; omega
    simp [hj, this]
  · simp [hj]

/-- A field reads the or of what two words have in it. -/
theorem BitField.get_or (f : BitField) (w v : Word) : f.get (w ||| v) = f.get w ||| f.get v := by
  refine Nat.eq_of_testBit_eq fun j => ?_
  by_cases hj : j < f.width <;> simp [hj]

/-- A field that is apart from another reads 0 of a word that has only the other. -/
theorem BitField.get_put_apart (f g : BitField) (v : Nat) (h : f.apart g = true) : f.get (g.put v) = 0 := by
  have := f.get_or_put g 0 v h
  simpa [BitField.get] using this

/-- A write of one field leaves it as written (R15, RegModify). -/
theorem BitField.get_modify (f : BitField) (w v : Word) (h : f.pos + f.width ≤ 32) :
    f.get ((w &&& ~~~f.mask) ||| (v &&& f.mask)) = f.get v := by
  refine Nat.eq_of_testBit_eq fun j => ?_
  rw [f.get_bit, f.get_bit, BitVec.getLsbD_or, BitVec.getLsbD_and, BitVec.getLsbD_and, BitVec.getLsbD_not, f.mask_bit]
  by_cases hj : j < f.width
  · have : f.pos + j < 32 := by omega
    simp [hj, this]
  · simp [hj]

/-- A write of one field leaves the fields that are apart from it (R15, RegModify). -/
theorem BitField.get_modify_apart (f g : BitField) (w v : Word) (h : f.pos + f.width ≤ 32) (ha : f.apart g = true) :
    f.get ((w &&& ~~~g.mask) ||| (v &&& g.mask)) = f.get w := by
  refine Nat.eq_of_testBit_eq fun j => ?_
  simp only [BitField.apart, Bool.or_eq_true, decide_eq_true_eq] at ha
  rw [f.get_bit, f.get_bit, BitVec.getLsbD_or, BitVec.getLsbD_and, BitVec.getLsbD_and, BitVec.getLsbD_not, g.mask_bit]
  by_cases hj : j < f.width
  · have h1 : f.pos + j < 32 := by omega
    have h2 : (decide (g.pos ≤ f.pos + j) && decide (f.pos + j - g.pos < g.width)) = false := by simp; omega
    simp [hj, h1, h2]
  · simp [hj]

/-- What is put into a field lies in its bits. -/
@[simp] theorem BitField.put_and_mask (f : BitField) (v : Nat) : f.put v &&& f.mask = f.put v := by
  refine BitVec.eq_of_getLsbD_eq fun i hi => ?_
  simp only [BitVec.getLsbD_and, BitField.put_bit, BitField.mask_bit]
  by_cases h1 : f.pos ≤ i <;> by_cases h2 : i - f.pos < f.width <;> simp [h1, h2, hi]

/-- The bits of several fields, one by one. -/
theorem fieldsMask_bit (fs : List BitField) (i : Nat) : (fieldsMask fs).getLsbD i = fs.any fun f => f.mask.getLsbD i := by
  induction fs with
  | nil => simp [fieldsMask]
  | cons f fs ih =>
    have : fieldsMask (f :: fs) = f.mask ||| fieldsMask fs := rfl
    rw [this, BitVec.getLsbD_or, ih, List.any_cons]

/-- What is put into a field lies in the bits of any fields it is one of. -/
theorem BitField.put_and_fieldsMask (f : BitField) (fs : List BitField) (v : Nat) (h : f ∈ fs) :
    f.put v &&& fieldsMask fs = f.put v := by
  refine BitVec.eq_of_getLsbD_eq fun i hi => ?_
  rw [BitVec.getLsbD_and, fieldsMask_bit]
  by_cases hp : (f.put v).getLsbD i = true
  · have : f.mask.getLsbD i = true := by
      have := congrArg (fun w : Word => w.getLsbD i) (f.put_and_mask v)
      simp only [BitVec.getLsbD_and] at this
      rw [hp] at this; simpa using this
    rw [hp, List.any_eq_true.2 ⟨f, h, this⟩]; rfl
  · simp only [Bool.not_eq_true] at hp; rw [hp]; rfl

/-- The fields of a layout are apart. -/
theorem fieldsFit_apart {f g : BitField} {fs : List BitField} (h : fieldsFit (f :: fs) = true) (hg : g ∈ fs) :
    f.apart g = true := by
  simp only [fieldsFit, Bool.and_eq_true, List.all_eq_true] at h
  exact h.1.2 g hg

/-- The fields of a layout lie in the register. -/
theorem fieldsFit_le {f : BitField} {fs : List BitField} (h : fieldsFit fs = true) (hf : f ∈ fs) :
    f.pos + f.width ≤ 32 := by
  induction fs with
  | nil => cases hf
  | cons g fs ih =>
    simp only [fieldsFit, Bool.and_eq_true, decide_eq_true_eq] at h
    rcases List.mem_cons.1 hf with rfl | hf
    · exact h.1.1
    · exact ih h.2 hf

end Sys2Proof
end

