-- ==== Sys2Proof/Laws/Memory.lean ====
section
/-! SUPPORT. Key and value lists in canonical form, and the SDRAM memory over them (20_memory.md R81, R82; log 13): a read after
a write, a write elsewhere, and every memory operation keeps the canonical form. -/

namespace Sys2Proof.Machine

theorem assocGet_assocSet {α : Type} (k : Nat) (v : α) (l : List (Nat × α)) : assocGet k (assocSet k v l) = some v := by
  induction l with
  | nil => simp [assocSet, assocGet]
  | cons p l ih =>
    obtain ⟨j, w⟩ := p
    simp only [assocSet]; split
    · simp [assocGet]
    · split
      · simp [assocGet]
      · rename_i h; simp [assocGet, Ne.symm h, ih]

theorem assocGet_assocSet_of_ne {α : Type} {k g : Nat} (hg : g ≠ k) (v : α) (l : List (Nat × α)) :
    assocGet g (assocSet k v l) = assocGet g l := by
  induction l with
  | nil => simp [assocSet, assocGet, hg.symm]
  | cons p l ih =>
    obtain ⟨j, w⟩ := p
    simp only [assocSet]; split
    · simp [assocGet, hg.symm]
    · split
      · rename_i h; subst h; simp [assocGet, hg.symm]
      · simp [assocGet, ih]

/-- The keys rise strictly, as a proposition: the head is below the rest, and the rest rises. -/
theorem assocWf_cons {α : Type} (k : Nat) (v : α) (l : List (Nat × α)) :
    assocWf ((k, v) :: l) = true ↔ (∀ q ∈ l.head?, k < q.1) ∧ assocWf l = true := by
  cases l <;> simp [assocWf]

/-- The first key after a write: the written one or the old first. -/
theorem assocSet_head {α : Type} (k j : Nat) (v : α) (l : List (Nat × α)) (hk : j < k) (h : ∀ q ∈ l.head?, j < q.1) :
    ∀ q ∈ (assocSet k v l).head?, j < q.1 := by
  cases l with
  | nil => simpa [assocSet] using hk
  | cons p l =>
    obtain ⟨a, w⟩ := p
    simp only [assocSet]; split
    · simpa using hk
    · split
      · simpa using hk
      · simpa using h

/-- A write keeps the canonical form. -/
theorem assocWf_assocSet {α : Type} (k : Nat) (v : α) (l : List (Nat × α)) (h : assocWf l = true) :
    assocWf (assocSet k v l) = true := by
  induction l with
  | nil => rfl
  | cons p l ih =>
    obtain ⟨j, w⟩ := p
    have hc := (assocWf_cons j w l).1 h
    simp only [assocSet]; split
    · exact (assocWf_cons _ _ _).2 ⟨by simpa, h⟩
    · split
      · rename_i e; subst e; exact (assocWf_cons _ _ _).2 hc
      · exact (assocWf_cons _ _ _).2 ⟨assocSet_head _ _ _ _ (by omega) hc.1, ih hc.2⟩

/-- What holds of every stored value and of a new one holds of every value after the write. -/
theorem assocSet_all {α : Type} (p : Nat × α → Bool) (k : Nat) (v : α) (l : List (Nat × α)) (hv : p (k, v) = true)
    (h : l.all p = true) : (assocSet k v l).all p = true := by
  induction l with
  | nil => simpa [assocSet] using hv
  | cons q l ih =>
    obtain ⟨j, w⟩ := q
    simp only [List.all_cons, Bool.and_eq_true] at h
    simp only [assocSet]; split
    · simp [hv, h.1, h.2]
    · split
      · simp [hv, h.2]
      · simp [h.1, ih h.2]

/-- A stored value is a member. -/
theorem mem_of_assocGet {α : Type} {k : Nat} {v : α} {l : List (Nat × α)} (h : assocGet k l = some v) : (k, v) ∈ l := by
  induction l with
  | nil => cases h
  | cons q l ih =>
    obtain ⟨j, w⟩ := q
    simp only [assocGet] at h
    split at h
    · rename_i e; subst e; cases h; exact List.mem_cons_self
    · exact List.mem_cons_of_mem _ (ih h)

theorem memoryWf_memorySet (m : Memory) (a : Nat) (b : Byte) (h : memoryWf m = true) : memoryWf (memorySet m a b) = true :=
  assocWf_assocSet a b m h

theorem memoryGet_memorySet (m : Memory) (a : Nat) (b : Byte) : memoryGet (memorySet m a b) a = some b :=
  assocGet_assocSet a b m

theorem memoryGet_memorySet_of_ne (m : Memory) {a x : Nat} (b : Byte) (h : x ≠ a) :
    memoryGet (memorySet m a b) x = memoryGet m x :=
  assocGet_assocSet_of_ne h b m

/-- A store of bytes keeps the canonical form. -/
theorem memoryWf_sdramStore (s : State) (bs : List Byte) : ∀ (m : Memory) (a : Nat), memoryWf m = true →
    memoryWf (s.sdramStore m a bs) = true := by
  induction bs with
  | nil => intro m a h; exact h
  | cons b bs ih =>
    intro m a h
    refine ih _ _ ?_
    split
    · exact h
    · exact memoryWf_memorySet _ _ _ h

/-- A store of bytes from `a` up leaves every other byte. -/
theorem memoryGet_sdramStore_outside (s : State) (bs : List Byte) : ∀ (m : Memory) (a : Nat) (x : Nat),
    x < a ∨ a + bs.length ≤ x → memoryGet (s.sdramStore m a bs) x = memoryGet m x := by
  induction bs with
  | nil => intro m a x _; rfl
  | cons b bs ih =>
    intro m a x hx
    simp only [List.length_cons] at hx
    refine (ih _ _ _ (by omega)).trans ?_
    split
    · rfl
    · exact memoryGet_memorySet_of_ne _ _ (by omega)

/-- The memory after reset is in canonical form. -/
theorem memoryWf_reset (c : Word) : memoryWf (State.resetWith c).sdram = true := rfl

end Sys2Proof.Machine
end

