-- ==== Sys2Proof/Laws/PerInstr.lean ====
section
/-! SUPPORT. The family Encoding: for every instruction, which of the two formats of the opcode table it has, and that its
bytes begin as that format says. -/

namespace Sys2Proof.Laws.Encoding

/-- An instruction of format OP8 begins with an assigned opcode (R105); one of format SDCMR is its command word (R112). -/
def Statement (i : Instr) : Prop :=
  (commandOf i = none → ∃ b r, encode i = b :: r ∧ (opcodeOf b).isSome) ∧
    ∀ w, commandOf i = some w → encode i = put32 w

theorem of_op8 {i : Instr} (b : Byte) (r : List Byte) (h : encode i = b :: r) (o : (opcodeOf b).isSome)
    (n : commandOf i = none) : Statement i :=
  ⟨fun _ => ⟨b, r, h, o⟩, fun w e => (by rw [n] at e; cases e)⟩

theorem of_command {i : Instr} (w : Word) (h : encode i = put32 w) (c : commandOf i = some w) : Statement i :=
  ⟨fun n => (by rw [n] at c; cases c), fun v e => (by rw [c] at e; cases e; exact h)⟩

theorem ccNow : Statement .ccNow :=
  of_op8 _ _ rfl rfl rfl
theorem ccElapsed (since : Word) : Statement (.ccElapsed since) :=
  of_op8 _ _ rfl rfl rfl
theorem ccEnable : Statement .ccEnable :=
  of_op8 _ _ rfl rfl rfl
theorem durToTicks (d : Duration) : Statement (.durToTicks d) :=
  of_op8 _ _ rfl rfl rfl
theorem dlyTicks (t : DWord) : Statement (.dlyTicks t) :=
  of_op8 _ _ rfl rfl rfl
theorem dlyUs (n : Word) : Statement (.dlyUs n) :=
  of_op8 _ _ rfl rfl rfl
theorem dlyMs (n : Word) : Statement (.dlyMs n) :=
  of_op8 _ _ rfl rfl rfl
theorem dlySF32 (sec : Word) : Statement (.dlySF32 sec) :=
  of_op8 _ _ rfl rfl rfl
theorem dlySF64 (sec : DWord) : Statement (.dlySF64 sec) :=
  of_op8 _ _ rfl rfl rfl
theorem dlyDuration (d : Duration) : Statement (.dlyDuration d) :=
  of_op8 _ _ rfl rfl rfl
theorem swNew (h : Word) (cap : Word) (freq : Word) : Statement (.swNew h cap freq) :=
  of_op8 _ _ rfl rfl rfl
theorem swLap (h : Word) : Statement (.swLap h) :=
  of_op8 _ _ rfl rfl rfl
theorem swLapTime (h : Word) (n : Word) : Statement (.swLapTime h n) :=
  of_op8 _ _ rfl rfl rfl
theorem swReset (h : Word) : Statement (.swReset h) :=
  of_op8 _ _ rfl rfl rfl
theorem swIterNext (h : Word) : Statement (.swIterNext h) :=
  of_op8 _ _ rfl rfl rfl
theorem tcNanosToCycles (ns clockFreq divisor subtract minimum : Word) : Statement (.tcNanosToCycles ns clockFreq divisor subtract minimum) :=
  of_op8 _ _ rfl rfl rfl
theorem tcRefreshCounter (periodNs clockFreq divisor rowCount : Word) : Statement (.tcRefreshCounter periodNs clockFreq divisor rowCount) :=
  of_op8 _ _ rfl rfl rfl
theorem tcConvertSpec (spec : TimingSpecNs) (clockFreq divisor : Word) : Statement (.tcConvertSpec spec clockFreq divisor) :=
  of_op8 _ _ rfl rfl rfl
theorem sdBringup (bank : Byte) (cfg : SdramConfig) : Statement (.sdBringup bank cfg) :=
  of_op8 _ _ rfl rfl rfl
theorem sdSendCmd (bank : Byte) (mode : Byte) (nrfs : Byte) (mrd : BitVec 16) : Statement (.sdSendCmd bank mode nrfs mrd) :=
  of_op8 _ _ rfl rfl rfl
theorem sdWaitReady : Statement .sdWaitReady :=
  of_op8 _ _ rfl rfl rfl
theorem sdModeWord (mp : ModeParams) : Statement (.sdModeWord mp) :=
  of_op8 _ _ rfl rfl rfl
theorem ltSetTiming (spec : DisplayTimingSpec) : Statement (.ltSetTiming spec) :=
  of_op8 _ _ rfl rfl rfl
theorem ltWindow (layer : Byte) (hStart hStop vStart vStop : BitVec 16) : Statement (.ltWindow layer hStart hStop vStart vStop) :=
  of_op8 _ _ rfl rfl rfl
theorem ltWindowXywh (layer : Byte) (x y w h : BitVec 16) : Statement (.ltWindowXywh layer x y w h) :=
  of_op8 _ _ rfl rfl rfl
theorem ltReload (mode : Byte) : Statement (.ltReload mode) :=
  of_op8 _ _ rfl rfl rfl
theorem ltReady : Statement .ltReady :=
  of_op8 _ _ rfl rfl rfl
theorem ltWaitReady : Statement .ltWaitReady :=
  of_op8 _ _ rfl rfl rfl
theorem ltBgcolor (rgb : Word) : Statement (.ltBgcolor rgb) :=
  of_op8 _ _ rfl rfl rfl
theorem ltPolarity (hs vs de pc : Byte) : Statement (.ltPolarity hs vs de pc) :=
  of_op8 _ _ rfl rfl rfl
theorem ltPixelFormat (layer pf : Byte) : Statement (.ltPixelFormat layer pf) :=
  of_op8 _ _ rfl rfl rfl
theorem ltDefaultColor (layer : Byte) (argb : Word) : Statement (.ltDefaultColor layer argb) :=
  of_op8 _ _ rfl rfl rfl
theorem ltConstAlpha (layer a : Byte) : Statement (.ltConstAlpha layer a) :=
  of_op8 _ _ rfl rfl rfl
theorem ltBlend (layer bf1 bf2 : Byte) : Statement (.ltBlend layer bf1 bf2) :=
  of_op8 _ _ rfl rfl rfl
theorem ltColorKey (layer fmt : Byte) (key : Word) : Statement (.ltColorKey layer fmt key) :=
  of_op8 _ _ rfl rfl rfl
theorem ltLineConfig (layer : Byte) (widthPx : BitVec 16) (bytesPp : Byte) (lines : BitVec 16) : Statement (.ltLineConfig layer widthPx bytesPp lines) :=
  of_op8 _ _ rfl rfl rfl
theorem ltFbAddr (layer : Byte) (addr : Word) : Statement (.ltFbAddr layer addr) :=
  of_op8 _ _ rfl rfl rfl
theorem ltLayerEnable (layer : Byte) : Statement (.ltLayerEnable layer) :=
  of_op8 _ _ rfl rfl rfl
theorem ltDitherEnable : Statement .ltDitherEnable :=
  of_op8 _ _ rfl rfl rfl
theorem ltEnable : Statement .ltEnable :=
  of_op8 _ _ rfl rfl rfl
theorem ltSetup (cfg : LtdcConfig) : Statement (.ltSetup cfg) :=
  of_op8 _ _ rfl rfl rfl
theorem ltRgb565To888 (c : BitVec 16) : Statement (.ltRgb565To888 c) :=
  of_op8 _ _ rfl rfl rfl
theorem csEnter : Statement .csEnter :=
  of_op8 _ _ rfl rfl rfl
theorem csExit : Statement .csExit :=
  of_op8 _ _ rfl rfl rfl
theorem rccFmcEnable : Statement .rccFmcEnable :=
  of_op8 _ _ rfl rfl rfl
theorem rccFmcResetPulse : Statement .rccFmcResetPulse :=
  of_op8 _ _ rfl rfl rfl
theorem clkFreq : Statement .clkFreq :=
  of_op8 _ _ rfl rfl rfl
theorem sdcmdClk (ctb2 ctb1 : Bool) (nrfs : BitVec 4) (mrd : BitVec 13) : Statement (.sdcmdClk ctb2 ctb1 nrfs mrd) :=
  of_command _ rfl rfl
theorem sdcmdPall (ctb2 ctb1 : Bool) (nrfs : BitVec 4) (mrd : BitVec 13) : Statement (.sdcmdPall ctb2 ctb1 nrfs mrd) :=
  of_command _ rfl rfl
theorem sdcmdAref (ctb2 ctb1 : Bool) (nrfs : BitVec 4) (mrd : BitVec 13) : Statement (.sdcmdAref ctb2 ctb1 nrfs mrd) :=
  of_command _ rfl rfl
theorem sdcmdLmr (ctb2 ctb1 : Bool) (nrfs : BitVec 4) (mrd : BitVec 13) : Statement (.sdcmdLmr ctb2 ctb1 nrfs mrd) :=
  of_command _ rfl rfl

end Sys2Proof.Laws.Encoding
end

