-- ==== Sys2Proof/Laws/State.lean ====
section
/-! SUPPORT. One lemma per field for each named update of State, so that no proof unfolds a record update. -/

namespace Sys2Proof.Machine

variable (s : State)

@[simp] theorem State.raiseFault_params (r : Fault) : (s.raiseFault r).params = s.params := rfl
@[simp] theorem State.raiseFault_sched (r : Fault) : (s.raiseFault r).sched = s.sched := rfl
@[simp] theorem State.raiseFault_draws (r : Fault) : (s.raiseFault r).draws = s.draws := rfl
@[simp] theorem State.raiseFault_program (r : Fault) : (s.raiseFault r).program = s.program := rfl
@[simp] theorem State.raiseFault_names (r : Fault) : (s.raiseFault r).names = s.names := rfl
@[simp] theorem State.raiseFault_lastRead (r : Fault) : (s.raiseFault r).lastRead = s.lastRead := rfl
@[simp] theorem State.raiseFault_ctx (r : Fault) : (s.raiseFault r).ctx = s.ctx := rfl
@[simp] theorem State.raiseFault_irq (r : Fault) : (s.raiseFault r).irq = s.irq := rfl
@[simp] theorem State.raiseFault_res (r : Fault) : (s.raiseFault r).res = s.res := rfl
@[simp] theorem State.raiseFault_faulted (r : Fault) : (s.raiseFault r).faulted = (match s.faulted with | none => some r | some f => some f) := rfl
@[simp] theorem State.raiseFault_refused (r : Fault) : (s.raiseFault r).refused = s.refused := rfl
@[simp] theorem State.raiseFault_imask (r : Fault) : (s.raiseFault r).imask = s.imask := rfl
@[simp] theorem State.raiseFault_csStack (r : Fault) : (s.raiseFault r).csStack = s.csStack := rfl
@[simp] theorem State.raiseFault_cyccnt (r : Fault) : (s.raiseFault r).cyccnt = s.cyccnt := rfl
@[simp] theorem State.raiseFault_trcena (r : Fault) : (s.raiseFault r).trcena = s.trcena := rfl
@[simp] theorem State.raiseFault_cyccntena (r : Fault) : (s.raiseFault r).cyccntena = s.cyccntena := rfl
@[simp] theorem State.raiseFault_watches (r : Fault) : (s.raiseFault r).watches = s.watches := rfl
@[simp] theorem State.raiseFault_fmcen (r : Fault) : (s.raiseFault r).fmcen = s.fmcen := rfl
@[simp] theorem State.raiseFault_fmcrst (r : Fault) : (s.raiseFault r).fmcrst = s.fmcrst := rfl
@[simp] theorem State.raiseFault_sdcr1 (r : Fault) : (s.raiseFault r).sdcr1 = s.sdcr1 := rfl
@[simp] theorem State.raiseFault_sdcr2 (r : Fault) : (s.raiseFault r).sdcr2 = s.sdcr2 := rfl
@[simp] theorem State.raiseFault_sdtr1 (r : Fault) : (s.raiseFault r).sdtr1 = s.sdtr1 := rfl
@[simp] theorem State.raiseFault_sdtr2 (r : Fault) : (s.raiseFault r).sdtr2 = s.sdtr2 := rfl
@[simp] theorem State.raiseFault_sdcmr (r : Fault) : (s.raiseFault r).sdcmr = s.sdcmr := rfl
@[simp] theorem State.raiseFault_sdrtr (r : Fault) : (s.raiseFault r).sdrtr = s.sdrtr := rfl
@[simp] theorem State.raiseFault_busy (r : Fault) : (s.raiseFault r).busy = s.busy := rfl
@[simp] theorem State.raiseFault_fmcPending (r : Fault) : (s.raiseFault r).fmcPending = s.fmcPending := rfl
@[simp] theorem State.raiseFault_sdramLog (r : Fault) : (s.raiseFault r).sdramLog = s.sdramLog := rfl
@[simp] theorem State.raiseFault_seqPhase (r : Fault) : (s.raiseFault r).seqPhase = s.seqPhase := rfl
@[simp] theorem State.raiseFault_seqBank (r : Fault) : (s.raiseFault r).seqBank = s.seqBank := rfl
@[simp] theorem State.raiseFault_seqResetAfterLive (r : Fault) : (s.raiseFault r).seqResetAfterLive = s.seqResetAfterLive := rfl
@[simp] theorem State.raiseFault_sdram (r : Fault) : (s.raiseFault r).sdram = s.sdram := rfl
@[simp] theorem State.raiseFault_gcr (r : Fault) : (s.raiseFault r).gcr = s.gcr := rfl
@[simp] theorem State.raiseFault_sscr (r : Fault) : (s.raiseFault r).sscr = s.sscr := rfl
@[simp] theorem State.raiseFault_bpcr (r : Fault) : (s.raiseFault r).bpcr = s.bpcr := rfl
@[simp] theorem State.raiseFault_awcr (r : Fault) : (s.raiseFault r).awcr = s.awcr := rfl
@[simp] theorem State.raiseFault_twcr (r : Fault) : (s.raiseFault r).twcr = s.twcr := rfl
@[simp] theorem State.raiseFault_bccr (r : Fault) : (s.raiseFault r).bccr = s.bccr := rfl
@[simp] theorem State.raiseFault_srcr (r : Fault) : (s.raiseFault r).srcr = s.srcr := rfl
@[simp] theorem State.raiseFault_layers (r : Fault) : (s.raiseFault r).layers = s.layers := rfl
@[simp] theorem State.raiseFault_ltdcLog (r : Fault) : (s.raiseFault r).ltdcLog = s.ltdcLog := rfl

@[simp] theorem State.refuse_params (r : Refusal) : (s.refuse r).params = s.params := rfl
@[simp] theorem State.refuse_sched (r : Refusal) : (s.refuse r).sched = s.sched := rfl
@[simp] theorem State.refuse_draws (r : Refusal) : (s.refuse r).draws = s.draws := rfl
@[simp] theorem State.refuse_program (r : Refusal) : (s.refuse r).program = s.program := rfl
@[simp] theorem State.refuse_names (r : Refusal) : (s.refuse r).names = s.names := rfl
@[simp] theorem State.refuse_lastRead (r : Refusal) : (s.refuse r).lastRead = s.lastRead := rfl
@[simp] theorem State.refuse_ctx (r : Refusal) : (s.refuse r).ctx = s.ctx := rfl
@[simp] theorem State.refuse_irq (r : Refusal) : (s.refuse r).irq = s.irq := rfl
@[simp] theorem State.refuse_res (r : Refusal) : (s.refuse r).res = s.res := rfl
@[simp] theorem State.refuse_faulted (r : Refusal) : (s.refuse r).faulted = s.faulted := rfl
@[simp] theorem State.refuse_refused (r : Refusal) : (s.refuse r).refused = (match s.refused with | none => some r | some f => some f) := rfl
@[simp] theorem State.refuse_imask (r : Refusal) : (s.refuse r).imask = s.imask := rfl
@[simp] theorem State.refuse_csStack (r : Refusal) : (s.refuse r).csStack = s.csStack := rfl
@[simp] theorem State.refuse_cyccnt (r : Refusal) : (s.refuse r).cyccnt = s.cyccnt := rfl
@[simp] theorem State.refuse_trcena (r : Refusal) : (s.refuse r).trcena = s.trcena := rfl
@[simp] theorem State.refuse_cyccntena (r : Refusal) : (s.refuse r).cyccntena = s.cyccntena := rfl
@[simp] theorem State.refuse_watches (r : Refusal) : (s.refuse r).watches = s.watches := rfl
@[simp] theorem State.refuse_fmcen (r : Refusal) : (s.refuse r).fmcen = s.fmcen := rfl
@[simp] theorem State.refuse_fmcrst (r : Refusal) : (s.refuse r).fmcrst = s.fmcrst := rfl
@[simp] theorem State.refuse_sdcr1 (r : Refusal) : (s.refuse r).sdcr1 = s.sdcr1 := rfl
@[simp] theorem State.refuse_sdcr2 (r : Refusal) : (s.refuse r).sdcr2 = s.sdcr2 := rfl
@[simp] theorem State.refuse_sdtr1 (r : Refusal) : (s.refuse r).sdtr1 = s.sdtr1 := rfl
@[simp] theorem State.refuse_sdtr2 (r : Refusal) : (s.refuse r).sdtr2 = s.sdtr2 := rfl
@[simp] theorem State.refuse_sdcmr (r : Refusal) : (s.refuse r).sdcmr = s.sdcmr := rfl
@[simp] theorem State.refuse_sdrtr (r : Refusal) : (s.refuse r).sdrtr = s.sdrtr := rfl
@[simp] theorem State.refuse_busy (r : Refusal) : (s.refuse r).busy = s.busy := rfl
@[simp] theorem State.refuse_fmcPending (r : Refusal) : (s.refuse r).fmcPending = s.fmcPending := rfl
@[simp] theorem State.refuse_sdramLog (r : Refusal) : (s.refuse r).sdramLog = s.sdramLog := rfl
@[simp] theorem State.refuse_seqPhase (r : Refusal) : (s.refuse r).seqPhase = s.seqPhase := rfl
@[simp] theorem State.refuse_seqBank (r : Refusal) : (s.refuse r).seqBank = s.seqBank := rfl
@[simp] theorem State.refuse_seqResetAfterLive (r : Refusal) : (s.refuse r).seqResetAfterLive = s.seqResetAfterLive := rfl
@[simp] theorem State.refuse_sdram (r : Refusal) : (s.refuse r).sdram = s.sdram := rfl
@[simp] theorem State.refuse_gcr (r : Refusal) : (s.refuse r).gcr = s.gcr := rfl
@[simp] theorem State.refuse_sscr (r : Refusal) : (s.refuse r).sscr = s.sscr := rfl
@[simp] theorem State.refuse_bpcr (r : Refusal) : (s.refuse r).bpcr = s.bpcr := rfl
@[simp] theorem State.refuse_awcr (r : Refusal) : (s.refuse r).awcr = s.awcr := rfl
@[simp] theorem State.refuse_twcr (r : Refusal) : (s.refuse r).twcr = s.twcr := rfl
@[simp] theorem State.refuse_bccr (r : Refusal) : (s.refuse r).bccr = s.bccr := rfl
@[simp] theorem State.refuse_srcr (r : Refusal) : (s.refuse r).srcr = s.srcr := rfl
@[simp] theorem State.refuse_layers (r : Refusal) : (s.refuse r).layers = s.layers := rfl
@[simp] theorem State.refuse_ltdcLog (r : Refusal) : (s.refuse r).ltdcLog = s.ltdcLog := rfl

@[simp] theorem State.setRes_params (v : Value) : (s.setRes v).params = s.params := rfl
@[simp] theorem State.setRes_sched (v : Value) : (s.setRes v).sched = s.sched := rfl
@[simp] theorem State.setRes_draws (v : Value) : (s.setRes v).draws = s.draws := rfl
@[simp] theorem State.setRes_program (v : Value) : (s.setRes v).program = s.program := rfl
@[simp] theorem State.setRes_names (v : Value) : (s.setRes v).names = s.names := rfl
@[simp] theorem State.setRes_lastRead (v : Value) : (s.setRes v).lastRead = s.lastRead := rfl
@[simp] theorem State.setRes_ctx (v : Value) : (s.setRes v).ctx = s.ctx := rfl
@[simp] theorem State.setRes_irq (v : Value) : (s.setRes v).irq = s.irq := rfl
@[simp] theorem State.setRes_res (v : Value) : (s.setRes v).res = some v := rfl
@[simp] theorem State.setRes_faulted (v : Value) : (s.setRes v).faulted = s.faulted := rfl
@[simp] theorem State.setRes_refused (v : Value) : (s.setRes v).refused = s.refused := rfl
@[simp] theorem State.setRes_imask (v : Value) : (s.setRes v).imask = s.imask := rfl
@[simp] theorem State.setRes_csStack (v : Value) : (s.setRes v).csStack = s.csStack := rfl
@[simp] theorem State.setRes_cyccnt (v : Value) : (s.setRes v).cyccnt = s.cyccnt := rfl
@[simp] theorem State.setRes_trcena (v : Value) : (s.setRes v).trcena = s.trcena := rfl
@[simp] theorem State.setRes_cyccntena (v : Value) : (s.setRes v).cyccntena = s.cyccntena := rfl
@[simp] theorem State.setRes_watches (v : Value) : (s.setRes v).watches = s.watches := rfl
@[simp] theorem State.setRes_fmcen (v : Value) : (s.setRes v).fmcen = s.fmcen := rfl
@[simp] theorem State.setRes_fmcrst (v : Value) : (s.setRes v).fmcrst = s.fmcrst := rfl
@[simp] theorem State.setRes_sdcr1 (v : Value) : (s.setRes v).sdcr1 = s.sdcr1 := rfl
@[simp] theorem State.setRes_sdcr2 (v : Value) : (s.setRes v).sdcr2 = s.sdcr2 := rfl
@[simp] theorem State.setRes_sdtr1 (v : Value) : (s.setRes v).sdtr1 = s.sdtr1 := rfl
@[simp] theorem State.setRes_sdtr2 (v : Value) : (s.setRes v).sdtr2 = s.sdtr2 := rfl
@[simp] theorem State.setRes_sdcmr (v : Value) : (s.setRes v).sdcmr = s.sdcmr := rfl
@[simp] theorem State.setRes_sdrtr (v : Value) : (s.setRes v).sdrtr = s.sdrtr := rfl
@[simp] theorem State.setRes_busy (v : Value) : (s.setRes v).busy = s.busy := rfl
@[simp] theorem State.setRes_fmcPending (v : Value) : (s.setRes v).fmcPending = s.fmcPending := rfl
@[simp] theorem State.setRes_sdramLog (v : Value) : (s.setRes v).sdramLog = s.sdramLog := rfl
@[simp] theorem State.setRes_seqPhase (v : Value) : (s.setRes v).seqPhase = s.seqPhase := rfl
@[simp] theorem State.setRes_seqBank (v : Value) : (s.setRes v).seqBank = s.seqBank := rfl
@[simp] theorem State.setRes_seqResetAfterLive (v : Value) : (s.setRes v).seqResetAfterLive = s.seqResetAfterLive := rfl
@[simp] theorem State.setRes_sdram (v : Value) : (s.setRes v).sdram = s.sdram := rfl
@[simp] theorem State.setRes_gcr (v : Value) : (s.setRes v).gcr = s.gcr := rfl
@[simp] theorem State.setRes_sscr (v : Value) : (s.setRes v).sscr = s.sscr := rfl
@[simp] theorem State.setRes_bpcr (v : Value) : (s.setRes v).bpcr = s.bpcr := rfl
@[simp] theorem State.setRes_awcr (v : Value) : (s.setRes v).awcr = s.awcr := rfl
@[simp] theorem State.setRes_twcr (v : Value) : (s.setRes v).twcr = s.twcr := rfl
@[simp] theorem State.setRes_bccr (v : Value) : (s.setRes v).bccr = s.bccr := rfl
@[simp] theorem State.setRes_srcr (v : Value) : (s.setRes v).srcr = s.srcr := rfl
@[simp] theorem State.setRes_layers (v : Value) : (s.setRes v).layers = s.layers := rfl
@[simp] theorem State.setRes_ltdcLog (v : Value) : (s.setRes v).ltdcLog = s.ltdcLog := rfl

@[simp] theorem State.recordRead_params (r : ReadRec) : (s.recordRead r).params = s.params := rfl
@[simp] theorem State.recordRead_sched (r : ReadRec) : (s.recordRead r).sched = s.sched := rfl
@[simp] theorem State.recordRead_draws (r : ReadRec) : (s.recordRead r).draws = s.draws := rfl
@[simp] theorem State.recordRead_program (r : ReadRec) : (s.recordRead r).program = s.program := rfl
@[simp] theorem State.recordRead_names (r : ReadRec) : (s.recordRead r).names = s.names := rfl
@[simp] theorem State.recordRead_lastRead (r : ReadRec) : (s.recordRead r).lastRead = some r := rfl
@[simp] theorem State.recordRead_ctx (r : ReadRec) : (s.recordRead r).ctx = s.ctx := rfl
@[simp] theorem State.recordRead_irq (r : ReadRec) : (s.recordRead r).irq = s.irq := rfl
@[simp] theorem State.recordRead_res (r : ReadRec) : (s.recordRead r).res = s.res := rfl
@[simp] theorem State.recordRead_faulted (r : ReadRec) : (s.recordRead r).faulted = s.faulted := rfl
@[simp] theorem State.recordRead_refused (r : ReadRec) : (s.recordRead r).refused = s.refused := rfl
@[simp] theorem State.recordRead_imask (r : ReadRec) : (s.recordRead r).imask = s.imask := rfl
@[simp] theorem State.recordRead_csStack (r : ReadRec) : (s.recordRead r).csStack = s.csStack := rfl
@[simp] theorem State.recordRead_cyccnt (r : ReadRec) : (s.recordRead r).cyccnt = s.cyccnt := rfl
@[simp] theorem State.recordRead_trcena (r : ReadRec) : (s.recordRead r).trcena = s.trcena := rfl
@[simp] theorem State.recordRead_cyccntena (r : ReadRec) : (s.recordRead r).cyccntena = s.cyccntena := rfl
@[simp] theorem State.recordRead_watches (r : ReadRec) : (s.recordRead r).watches = s.watches := rfl
@[simp] theorem State.recordRead_fmcen (r : ReadRec) : (s.recordRead r).fmcen = s.fmcen := rfl
@[simp] theorem State.recordRead_fmcrst (r : ReadRec) : (s.recordRead r).fmcrst = s.fmcrst := rfl
@[simp] theorem State.recordRead_sdcr1 (r : ReadRec) : (s.recordRead r).sdcr1 = s.sdcr1 := rfl
@[simp] theorem State.recordRead_sdcr2 (r : ReadRec) : (s.recordRead r).sdcr2 = s.sdcr2 := rfl
@[simp] theorem State.recordRead_sdtr1 (r : ReadRec) : (s.recordRead r).sdtr1 = s.sdtr1 := rfl
@[simp] theorem State.recordRead_sdtr2 (r : ReadRec) : (s.recordRead r).sdtr2 = s.sdtr2 := rfl
@[simp] theorem State.recordRead_sdcmr (r : ReadRec) : (s.recordRead r).sdcmr = s.sdcmr := rfl
@[simp] theorem State.recordRead_sdrtr (r : ReadRec) : (s.recordRead r).sdrtr = s.sdrtr := rfl
@[simp] theorem State.recordRead_busy (r : ReadRec) : (s.recordRead r).busy = s.busy := rfl
@[simp] theorem State.recordRead_fmcPending (r : ReadRec) : (s.recordRead r).fmcPending = s.fmcPending := rfl
@[simp] theorem State.recordRead_sdramLog (r : ReadRec) : (s.recordRead r).sdramLog = s.sdramLog := rfl
@[simp] theorem State.recordRead_seqPhase (r : ReadRec) : (s.recordRead r).seqPhase = s.seqPhase := rfl
@[simp] theorem State.recordRead_seqBank (r : ReadRec) : (s.recordRead r).seqBank = s.seqBank := rfl
@[simp] theorem State.recordRead_seqResetAfterLive (r : ReadRec) : (s.recordRead r).seqResetAfterLive = s.seqResetAfterLive := rfl
@[simp] theorem State.recordRead_sdram (r : ReadRec) : (s.recordRead r).sdram = s.sdram := rfl
@[simp] theorem State.recordRead_gcr (r : ReadRec) : (s.recordRead r).gcr = s.gcr := rfl
@[simp] theorem State.recordRead_sscr (r : ReadRec) : (s.recordRead r).sscr = s.sscr := rfl
@[simp] theorem State.recordRead_bpcr (r : ReadRec) : (s.recordRead r).bpcr = s.bpcr := rfl
@[simp] theorem State.recordRead_awcr (r : ReadRec) : (s.recordRead r).awcr = s.awcr := rfl
@[simp] theorem State.recordRead_twcr (r : ReadRec) : (s.recordRead r).twcr = s.twcr := rfl
@[simp] theorem State.recordRead_bccr (r : ReadRec) : (s.recordRead r).bccr = s.bccr := rfl
@[simp] theorem State.recordRead_srcr (r : ReadRec) : (s.recordRead r).srcr = s.srcr := rfl
@[simp] theorem State.recordRead_layers (r : ReadRec) : (s.recordRead r).layers = s.layers := rfl
@[simp] theorem State.recordRead_ltdcLog (r : ReadRec) : (s.recordRead r).ltdcLog = s.ltdcLog := rfl

@[simp] theorem State.csEnter_params : (s.csEnter).params = s.params := rfl
@[simp] theorem State.csEnter_sched : (s.csEnter).sched = s.sched := rfl
@[simp] theorem State.csEnter_draws : (s.csEnter).draws = s.draws := rfl
@[simp] theorem State.csEnter_program : (s.csEnter).program = s.program := rfl
@[simp] theorem State.csEnter_names : (s.csEnter).names = s.names := rfl
@[simp] theorem State.csEnter_lastRead : (s.csEnter).lastRead = s.lastRead := rfl
@[simp] theorem State.csEnter_ctx : (s.csEnter).ctx = s.ctx := rfl
@[simp] theorem State.csEnter_irq : (s.csEnter).irq = s.irq := rfl
@[simp] theorem State.csEnter_res : (s.csEnter).res = s.res := rfl
@[simp] theorem State.csEnter_faulted : (s.csEnter).faulted = s.faulted := rfl
@[simp] theorem State.csEnter_refused : (s.csEnter).refused = s.refused := rfl
@[simp] theorem State.csEnter_imask : (s.csEnter).imask = true := rfl
@[simp] theorem State.csEnter_csStack : (s.csEnter).csStack = s.imask :: s.csStack := rfl
@[simp] theorem State.csEnter_cyccnt : (s.csEnter).cyccnt = s.cyccnt := rfl
@[simp] theorem State.csEnter_trcena : (s.csEnter).trcena = s.trcena := rfl
@[simp] theorem State.csEnter_cyccntena : (s.csEnter).cyccntena = s.cyccntena := rfl
@[simp] theorem State.csEnter_watches : (s.csEnter).watches = s.watches := rfl
@[simp] theorem State.csEnter_fmcen : (s.csEnter).fmcen = s.fmcen := rfl
@[simp] theorem State.csEnter_fmcrst : (s.csEnter).fmcrst = s.fmcrst := rfl
@[simp] theorem State.csEnter_sdcr1 : (s.csEnter).sdcr1 = s.sdcr1 := rfl
@[simp] theorem State.csEnter_sdcr2 : (s.csEnter).sdcr2 = s.sdcr2 := rfl
@[simp] theorem State.csEnter_sdtr1 : (s.csEnter).sdtr1 = s.sdtr1 := rfl
@[simp] theorem State.csEnter_sdtr2 : (s.csEnter).sdtr2 = s.sdtr2 := rfl
@[simp] theorem State.csEnter_sdcmr : (s.csEnter).sdcmr = s.sdcmr := rfl
@[simp] theorem State.csEnter_sdrtr : (s.csEnter).sdrtr = s.sdrtr := rfl
@[simp] theorem State.csEnter_busy : (s.csEnter).busy = s.busy := rfl
@[simp] theorem State.csEnter_fmcPending : (s.csEnter).fmcPending = s.fmcPending := rfl
@[simp] theorem State.csEnter_sdramLog : (s.csEnter).sdramLog = s.sdramLog := rfl
@[simp] theorem State.csEnter_seqPhase : (s.csEnter).seqPhase = s.seqPhase := rfl
@[simp] theorem State.csEnter_seqBank : (s.csEnter).seqBank = s.seqBank := rfl
@[simp] theorem State.csEnter_seqResetAfterLive : (s.csEnter).seqResetAfterLive = s.seqResetAfterLive := rfl
@[simp] theorem State.csEnter_sdram : (s.csEnter).sdram = s.sdram := rfl
@[simp] theorem State.csEnter_gcr : (s.csEnter).gcr = s.gcr := rfl
@[simp] theorem State.csEnter_sscr : (s.csEnter).sscr = s.sscr := rfl
@[simp] theorem State.csEnter_bpcr : (s.csEnter).bpcr = s.bpcr := rfl
@[simp] theorem State.csEnter_awcr : (s.csEnter).awcr = s.awcr := rfl
@[simp] theorem State.csEnter_twcr : (s.csEnter).twcr = s.twcr := rfl
@[simp] theorem State.csEnter_bccr : (s.csEnter).bccr = s.bccr := rfl
@[simp] theorem State.csEnter_srcr : (s.csEnter).srcr = s.srcr := rfl
@[simp] theorem State.csEnter_layers : (s.csEnter).layers = s.layers := rfl
@[simp] theorem State.csEnter_ltdcLog : (s.csEnter).ltdcLog = s.ltdcLog := rfl

@[simp] theorem State.setLayer_params (k : Nat) (l : Layer) : (s.setLayer k l).params = s.params := rfl
@[simp] theorem State.setLayer_sched (k : Nat) (l : Layer) : (s.setLayer k l).sched = s.sched := rfl
@[simp] theorem State.setLayer_draws (k : Nat) (l : Layer) : (s.setLayer k l).draws = s.draws := rfl
@[simp] theorem State.setLayer_program (k : Nat) (l : Layer) : (s.setLayer k l).program = s.program := rfl
@[simp] theorem State.setLayer_names (k : Nat) (l : Layer) : (s.setLayer k l).names = s.names := rfl
@[simp] theorem State.setLayer_lastRead (k : Nat) (l : Layer) : (s.setLayer k l).lastRead = s.lastRead := rfl
@[simp] theorem State.setLayer_ctx (k : Nat) (l : Layer) : (s.setLayer k l).ctx = s.ctx := rfl
@[simp] theorem State.setLayer_irq (k : Nat) (l : Layer) : (s.setLayer k l).irq = s.irq := rfl
@[simp] theorem State.setLayer_res (k : Nat) (l : Layer) : (s.setLayer k l).res = s.res := rfl
@[simp] theorem State.setLayer_faulted (k : Nat) (l : Layer) : (s.setLayer k l).faulted = s.faulted := rfl
@[simp] theorem State.setLayer_refused (k : Nat) (l : Layer) : (s.setLayer k l).refused = s.refused := rfl
@[simp] theorem State.setLayer_imask (k : Nat) (l : Layer) : (s.setLayer k l).imask = s.imask := rfl
@[simp] theorem State.setLayer_csStack (k : Nat) (l : Layer) : (s.setLayer k l).csStack = s.csStack := rfl
@[simp] theorem State.setLayer_cyccnt (k : Nat) (l : Layer) : (s.setLayer k l).cyccnt = s.cyccnt := rfl
@[simp] theorem State.setLayer_trcena (k : Nat) (l : Layer) : (s.setLayer k l).trcena = s.trcena := rfl
@[simp] theorem State.setLayer_cyccntena (k : Nat) (l : Layer) : (s.setLayer k l).cyccntena = s.cyccntena := rfl
@[simp] theorem State.setLayer_watches (k : Nat) (l : Layer) : (s.setLayer k l).watches = s.watches := rfl
@[simp] theorem State.setLayer_fmcen (k : Nat) (l : Layer) : (s.setLayer k l).fmcen = s.fmcen := rfl
@[simp] theorem State.setLayer_fmcrst (k : Nat) (l : Layer) : (s.setLayer k l).fmcrst = s.fmcrst := rfl
@[simp] theorem State.setLayer_sdcr1 (k : Nat) (l : Layer) : (s.setLayer k l).sdcr1 = s.sdcr1 := rfl
@[simp] theorem State.setLayer_sdcr2 (k : Nat) (l : Layer) : (s.setLayer k l).sdcr2 = s.sdcr2 := rfl
@[simp] theorem State.setLayer_sdtr1 (k : Nat) (l : Layer) : (s.setLayer k l).sdtr1 = s.sdtr1 := rfl
@[simp] theorem State.setLayer_sdtr2 (k : Nat) (l : Layer) : (s.setLayer k l).sdtr2 = s.sdtr2 := rfl
@[simp] theorem State.setLayer_sdcmr (k : Nat) (l : Layer) : (s.setLayer k l).sdcmr = s.sdcmr := rfl
@[simp] theorem State.setLayer_sdrtr (k : Nat) (l : Layer) : (s.setLayer k l).sdrtr = s.sdrtr := rfl
@[simp] theorem State.setLayer_busy (k : Nat) (l : Layer) : (s.setLayer k l).busy = s.busy := rfl
@[simp] theorem State.setLayer_fmcPending (k : Nat) (l : Layer) : (s.setLayer k l).fmcPending = s.fmcPending := rfl
@[simp] theorem State.setLayer_sdramLog (k : Nat) (l : Layer) : (s.setLayer k l).sdramLog = s.sdramLog := rfl
@[simp] theorem State.setLayer_seqPhase (k : Nat) (l : Layer) : (s.setLayer k l).seqPhase = s.seqPhase := rfl
@[simp] theorem State.setLayer_seqBank (k : Nat) (l : Layer) : (s.setLayer k l).seqBank = s.seqBank := rfl
@[simp] theorem State.setLayer_seqResetAfterLive (k : Nat) (l : Layer) : (s.setLayer k l).seqResetAfterLive = s.seqResetAfterLive := rfl
@[simp] theorem State.setLayer_sdram (k : Nat) (l : Layer) : (s.setLayer k l).sdram = s.sdram := rfl
@[simp] theorem State.setLayer_gcr (k : Nat) (l : Layer) : (s.setLayer k l).gcr = s.gcr := rfl
@[simp] theorem State.setLayer_sscr (k : Nat) (l : Layer) : (s.setLayer k l).sscr = s.sscr := rfl
@[simp] theorem State.setLayer_bpcr (k : Nat) (l : Layer) : (s.setLayer k l).bpcr = s.bpcr := rfl
@[simp] theorem State.setLayer_awcr (k : Nat) (l : Layer) : (s.setLayer k l).awcr = s.awcr := rfl
@[simp] theorem State.setLayer_twcr (k : Nat) (l : Layer) : (s.setLayer k l).twcr = s.twcr := rfl
@[simp] theorem State.setLayer_bccr (k : Nat) (l : Layer) : (s.setLayer k l).bccr = s.bccr := rfl
@[simp] theorem State.setLayer_srcr (k : Nat) (l : Layer) : (s.setLayer k l).srcr = s.srcr := rfl
@[simp] theorem State.setLayer_layers (k : Nat) (l : Layer) : (s.setLayer k l).layers = s.layers.set (k - 1) l := rfl
@[simp] theorem State.setLayer_ltdcLog (k : Nat) (l : Layer) : (s.setLayer k l).ltdcLog = s.ltdcLog := rfl

@[simp] theorem State.regRead_params (r : Reg) : (s.regRead r).params = s.params := rfl
@[simp] theorem State.regRead_sched (r : Reg) : (s.regRead r).sched = s.sched := rfl
@[simp] theorem State.regRead_draws (r : Reg) : (s.regRead r).draws = s.draws + 1 := rfl
@[simp] theorem State.regRead_program (r : Reg) : (s.regRead r).program = s.program := rfl
@[simp] theorem State.regRead_names (r : Reg) : (s.regRead r).names = s.names := rfl
@[simp] theorem State.regRead_lastRead (r : Reg) : (s.regRead r).lastRead = some (.reg r (s.regKnown r) s.draws) := rfl
@[simp] theorem State.regRead_ctx (r : Reg) : (s.regRead r).ctx = s.ctx := rfl
@[simp] theorem State.regRead_irq (r : Reg) : (s.regRead r).irq = s.irq := rfl
@[simp] theorem State.regRead_res (r : Reg) : (s.regRead r).res = s.res := rfl
@[simp] theorem State.regRead_faulted (r : Reg) : (s.regRead r).faulted = s.faulted := rfl
@[simp] theorem State.regRead_refused (r : Reg) : (s.regRead r).refused = s.refused := rfl
@[simp] theorem State.regRead_imask (r : Reg) : (s.regRead r).imask = s.imask := rfl
@[simp] theorem State.regRead_csStack (r : Reg) : (s.regRead r).csStack = s.csStack := rfl
@[simp] theorem State.regRead_cyccnt (r : Reg) : (s.regRead r).cyccnt = s.cyccnt := rfl
@[simp] theorem State.regRead_trcena (r : Reg) : (s.regRead r).trcena = s.trcena := rfl
@[simp] theorem State.regRead_cyccntena (r : Reg) : (s.regRead r).cyccntena = s.cyccntena := rfl
@[simp] theorem State.regRead_watches (r : Reg) : (s.regRead r).watches = s.watches := rfl
@[simp] theorem State.regRead_fmcen (r : Reg) : (s.regRead r).fmcen = s.fmcen := rfl
@[simp] theorem State.regRead_fmcrst (r : Reg) : (s.regRead r).fmcrst = s.fmcrst := rfl
@[simp] theorem State.regRead_sdcr1 (r : Reg) : (s.regRead r).sdcr1 = s.sdcr1 := rfl
@[simp] theorem State.regRead_sdcr2 (r : Reg) : (s.regRead r).sdcr2 = s.sdcr2 := rfl
@[simp] theorem State.regRead_sdtr1 (r : Reg) : (s.regRead r).sdtr1 = s.sdtr1 := rfl
@[simp] theorem State.regRead_sdtr2 (r : Reg) : (s.regRead r).sdtr2 = s.sdtr2 := rfl
@[simp] theorem State.regRead_sdcmr (r : Reg) : (s.regRead r).sdcmr = s.sdcmr := rfl
@[simp] theorem State.regRead_sdrtr (r : Reg) : (s.regRead r).sdrtr = s.sdrtr := rfl
@[simp] theorem State.regRead_busy (r : Reg) : (s.regRead r).busy = s.busy := rfl
@[simp] theorem State.regRead_fmcPending (r : Reg) : (s.regRead r).fmcPending = s.fmcPending := rfl
@[simp] theorem State.regRead_sdramLog (r : Reg) : (s.regRead r).sdramLog = s.sdramLog := rfl
@[simp] theorem State.regRead_seqPhase (r : Reg) : (s.regRead r).seqPhase = s.seqPhase := rfl
@[simp] theorem State.regRead_seqBank (r : Reg) : (s.regRead r).seqBank = s.seqBank := rfl
@[simp] theorem State.regRead_seqResetAfterLive (r : Reg) : (s.regRead r).seqResetAfterLive = s.seqResetAfterLive := rfl
@[simp] theorem State.regRead_sdram (r : Reg) : (s.regRead r).sdram = s.sdram := rfl
@[simp] theorem State.regRead_gcr (r : Reg) : (s.regRead r).gcr = s.gcr := rfl
@[simp] theorem State.regRead_sscr (r : Reg) : (s.regRead r).sscr = s.sscr := rfl
@[simp] theorem State.regRead_bpcr (r : Reg) : (s.regRead r).bpcr = s.bpcr := rfl
@[simp] theorem State.regRead_awcr (r : Reg) : (s.regRead r).awcr = s.awcr := rfl
@[simp] theorem State.regRead_twcr (r : Reg) : (s.regRead r).twcr = s.twcr := rfl
@[simp] theorem State.regRead_bccr (r : Reg) : (s.regRead r).bccr = s.bccr := rfl
@[simp] theorem State.regRead_srcr (r : Reg) : (s.regRead r).srcr = s.srcr := rfl
@[simp] theorem State.regRead_layers (r : Reg) : (s.regRead r).layers = s.layers := rfl
@[simp] theorem State.regRead_ltdcLog (r : Reg) : (s.regRead r).ltdcLog = s.ltdcLog := rfl

@[simp] theorem State.setLatch_params (w : Word) : (s.setLatch w).params = s.params := rfl
@[simp] theorem State.setLatch_sched (w : Word) : (s.setLatch w).sched = s.sched := rfl
@[simp] theorem State.setLatch_draws (w : Word) : (s.setLatch w).draws = s.draws := rfl
@[simp] theorem State.setLatch_program (w : Word) : (s.setLatch w).program = s.program := rfl
@[simp] theorem State.setLatch_names (w : Word) : (s.setLatch w).names = s.names := rfl
@[simp] theorem State.setLatch_lastRead (w : Word) : (s.setLatch w).lastRead = s.lastRead := rfl
@[simp] theorem State.setLatch_ctx (w : Word) : (s.setLatch w).ctx = { s.ctx with latch := w } := rfl
@[simp] theorem State.setLatch_irq (w : Word) : (s.setLatch w).irq = s.irq := rfl
@[simp] theorem State.setLatch_res (w : Word) : (s.setLatch w).res = s.res := rfl
@[simp] theorem State.setLatch_faulted (w : Word) : (s.setLatch w).faulted = s.faulted := rfl
@[simp] theorem State.setLatch_refused (w : Word) : (s.setLatch w).refused = s.refused := rfl
@[simp] theorem State.setLatch_imask (w : Word) : (s.setLatch w).imask = s.imask := rfl
@[simp] theorem State.setLatch_csStack (w : Word) : (s.setLatch w).csStack = s.csStack := rfl
@[simp] theorem State.setLatch_cyccnt (w : Word) : (s.setLatch w).cyccnt = s.cyccnt := rfl
@[simp] theorem State.setLatch_trcena (w : Word) : (s.setLatch w).trcena = s.trcena := rfl
@[simp] theorem State.setLatch_cyccntena (w : Word) : (s.setLatch w).cyccntena = s.cyccntena := rfl
@[simp] theorem State.setLatch_watches (w : Word) : (s.setLatch w).watches = s.watches := rfl
@[simp] theorem State.setLatch_fmcen (w : Word) : (s.setLatch w).fmcen = s.fmcen := rfl
@[simp] theorem State.setLatch_fmcrst (w : Word) : (s.setLatch w).fmcrst = s.fmcrst := rfl
@[simp] theorem State.setLatch_sdcr1 (w : Word) : (s.setLatch w).sdcr1 = s.sdcr1 := rfl
@[simp] theorem State.setLatch_sdcr2 (w : Word) : (s.setLatch w).sdcr2 = s.sdcr2 := rfl
@[simp] theorem State.setLatch_sdtr1 (w : Word) : (s.setLatch w).sdtr1 = s.sdtr1 := rfl
@[simp] theorem State.setLatch_sdtr2 (w : Word) : (s.setLatch w).sdtr2 = s.sdtr2 := rfl
@[simp] theorem State.setLatch_sdcmr (w : Word) : (s.setLatch w).sdcmr = s.sdcmr := rfl
@[simp] theorem State.setLatch_sdrtr (w : Word) : (s.setLatch w).sdrtr = s.sdrtr := rfl
@[simp] theorem State.setLatch_busy (w : Word) : (s.setLatch w).busy = s.busy := rfl
@[simp] theorem State.setLatch_fmcPending (w : Word) : (s.setLatch w).fmcPending = s.fmcPending := rfl
@[simp] theorem State.setLatch_sdramLog (w : Word) : (s.setLatch w).sdramLog = s.sdramLog := rfl
@[simp] theorem State.setLatch_seqPhase (w : Word) : (s.setLatch w).seqPhase = s.seqPhase := rfl
@[simp] theorem State.setLatch_seqBank (w : Word) : (s.setLatch w).seqBank = s.seqBank := rfl
@[simp] theorem State.setLatch_seqResetAfterLive (w : Word) : (s.setLatch w).seqResetAfterLive = s.seqResetAfterLive := rfl
@[simp] theorem State.setLatch_sdram (w : Word) : (s.setLatch w).sdram = s.sdram := rfl
@[simp] theorem State.setLatch_gcr (w : Word) : (s.setLatch w).gcr = s.gcr := rfl
@[simp] theorem State.setLatch_sscr (w : Word) : (s.setLatch w).sscr = s.sscr := rfl
@[simp] theorem State.setLatch_bpcr (w : Word) : (s.setLatch w).bpcr = s.bpcr := rfl
@[simp] theorem State.setLatch_awcr (w : Word) : (s.setLatch w).awcr = s.awcr := rfl
@[simp] theorem State.setLatch_twcr (w : Word) : (s.setLatch w).twcr = s.twcr := rfl
@[simp] theorem State.setLatch_bccr (w : Word) : (s.setLatch w).bccr = s.bccr := rfl
@[simp] theorem State.setLatch_srcr (w : Word) : (s.setLatch w).srcr = s.srcr := rfl
@[simp] theorem State.setLatch_layers (w : Word) : (s.setLatch w).layers = s.layers := rfl
@[simp] theorem State.setLatch_ltdcLog (w : Word) : (s.setLatch w).ltdcLog = s.ltdcLog := rfl

@[simp] theorem State.setWait_params (w : Option WaitRegs) : (s.setWait w).params = s.params := rfl
@[simp] theorem State.setWait_sched (w : Option WaitRegs) : (s.setWait w).sched = s.sched := rfl
@[simp] theorem State.setWait_draws (w : Option WaitRegs) : (s.setWait w).draws = s.draws := rfl
@[simp] theorem State.setWait_program (w : Option WaitRegs) : (s.setWait w).program = s.program := rfl
@[simp] theorem State.setWait_names (w : Option WaitRegs) : (s.setWait w).names = s.names := rfl
@[simp] theorem State.setWait_lastRead (w : Option WaitRegs) : (s.setWait w).lastRead = s.lastRead := rfl
@[simp] theorem State.setWait_ctx (w : Option WaitRegs) : (s.setWait w).ctx = { s.ctx with wait := w } := rfl
@[simp] theorem State.setWait_irq (w : Option WaitRegs) : (s.setWait w).irq = s.irq := rfl
@[simp] theorem State.setWait_res (w : Option WaitRegs) : (s.setWait w).res = s.res := rfl
@[simp] theorem State.setWait_faulted (w : Option WaitRegs) : (s.setWait w).faulted = s.faulted := rfl
@[simp] theorem State.setWait_refused (w : Option WaitRegs) : (s.setWait w).refused = s.refused := rfl
@[simp] theorem State.setWait_imask (w : Option WaitRegs) : (s.setWait w).imask = s.imask := rfl
@[simp] theorem State.setWait_csStack (w : Option WaitRegs) : (s.setWait w).csStack = s.csStack := rfl
@[simp] theorem State.setWait_cyccnt (w : Option WaitRegs) : (s.setWait w).cyccnt = s.cyccnt := rfl
@[simp] theorem State.setWait_trcena (w : Option WaitRegs) : (s.setWait w).trcena = s.trcena := rfl
@[simp] theorem State.setWait_cyccntena (w : Option WaitRegs) : (s.setWait w).cyccntena = s.cyccntena := rfl
@[simp] theorem State.setWait_watches (w : Option WaitRegs) : (s.setWait w).watches = s.watches := rfl
@[simp] theorem State.setWait_fmcen (w : Option WaitRegs) : (s.setWait w).fmcen = s.fmcen := rfl
@[simp] theorem State.setWait_fmcrst (w : Option WaitRegs) : (s.setWait w).fmcrst = s.fmcrst := rfl
@[simp] theorem State.setWait_sdcr1 (w : Option WaitRegs) : (s.setWait w).sdcr1 = s.sdcr1 := rfl
@[simp] theorem State.setWait_sdcr2 (w : Option WaitRegs) : (s.setWait w).sdcr2 = s.sdcr2 := rfl
@[simp] theorem State.setWait_sdtr1 (w : Option WaitRegs) : (s.setWait w).sdtr1 = s.sdtr1 := rfl
@[simp] theorem State.setWait_sdtr2 (w : Option WaitRegs) : (s.setWait w).sdtr2 = s.sdtr2 := rfl
@[simp] theorem State.setWait_sdcmr (w : Option WaitRegs) : (s.setWait w).sdcmr = s.sdcmr := rfl
@[simp] theorem State.setWait_sdrtr (w : Option WaitRegs) : (s.setWait w).sdrtr = s.sdrtr := rfl
@[simp] theorem State.setWait_busy (w : Option WaitRegs) : (s.setWait w).busy = s.busy := rfl
@[simp] theorem State.setWait_fmcPending (w : Option WaitRegs) : (s.setWait w).fmcPending = s.fmcPending := rfl
@[simp] theorem State.setWait_sdramLog (w : Option WaitRegs) : (s.setWait w).sdramLog = s.sdramLog := rfl
@[simp] theorem State.setWait_seqPhase (w : Option WaitRegs) : (s.setWait w).seqPhase = s.seqPhase := rfl
@[simp] theorem State.setWait_seqBank (w : Option WaitRegs) : (s.setWait w).seqBank = s.seqBank := rfl
@[simp] theorem State.setWait_seqResetAfterLive (w : Option WaitRegs) : (s.setWait w).seqResetAfterLive = s.seqResetAfterLive := rfl
@[simp] theorem State.setWait_sdram (w : Option WaitRegs) : (s.setWait w).sdram = s.sdram := rfl
@[simp] theorem State.setWait_gcr (w : Option WaitRegs) : (s.setWait w).gcr = s.gcr := rfl
@[simp] theorem State.setWait_sscr (w : Option WaitRegs) : (s.setWait w).sscr = s.sscr := rfl
@[simp] theorem State.setWait_bpcr (w : Option WaitRegs) : (s.setWait w).bpcr = s.bpcr := rfl
@[simp] theorem State.setWait_awcr (w : Option WaitRegs) : (s.setWait w).awcr = s.awcr := rfl
@[simp] theorem State.setWait_twcr (w : Option WaitRegs) : (s.setWait w).twcr = s.twcr := rfl
@[simp] theorem State.setWait_bccr (w : Option WaitRegs) : (s.setWait w).bccr = s.bccr := rfl
@[simp] theorem State.setWait_srcr (w : Option WaitRegs) : (s.setWait w).srcr = s.srcr := rfl
@[simp] theorem State.setWait_layers (w : Option WaitRegs) : (s.setWait w).layers = s.layers := rfl
@[simp] theorem State.setWait_ltdcLog (w : Option WaitRegs) : (s.setWait w).ltdcLog = s.ltdcLog := rfl

@[simp] theorem State.setWatch_params (h : Word) (w : StopWatch) : (s.setWatch h w).params = s.params := rfl
@[simp] theorem State.setWatch_sched (h : Word) (w : StopWatch) : (s.setWatch h w).sched = s.sched := rfl
@[simp] theorem State.setWatch_draws (h : Word) (w : StopWatch) : (s.setWatch h w).draws = s.draws := rfl
@[simp] theorem State.setWatch_program (h : Word) (w : StopWatch) : (s.setWatch h w).program = s.program := rfl
@[simp] theorem State.setWatch_names (h : Word) (w : StopWatch) : (s.setWatch h w).names = s.names := rfl
@[simp] theorem State.setWatch_lastRead (h : Word) (w : StopWatch) : (s.setWatch h w).lastRead = s.lastRead := rfl
@[simp] theorem State.setWatch_ctx (h : Word) (w : StopWatch) : (s.setWatch h w).ctx = s.ctx := rfl
@[simp] theorem State.setWatch_irq (h : Word) (w : StopWatch) : (s.setWatch h w).irq = s.irq := rfl
@[simp] theorem State.setWatch_res (h : Word) (w : StopWatch) : (s.setWatch h w).res = s.res := rfl
@[simp] theorem State.setWatch_faulted (h : Word) (w : StopWatch) : (s.setWatch h w).faulted = s.faulted := rfl
@[simp] theorem State.setWatch_refused (h : Word) (w : StopWatch) : (s.setWatch h w).refused = s.refused := rfl
@[simp] theorem State.setWatch_imask (h : Word) (w : StopWatch) : (s.setWatch h w).imask = s.imask := rfl
@[simp] theorem State.setWatch_csStack (h : Word) (w : StopWatch) : (s.setWatch h w).csStack = s.csStack := rfl
@[simp] theorem State.setWatch_cyccnt (h : Word) (w : StopWatch) : (s.setWatch h w).cyccnt = s.cyccnt := rfl
@[simp] theorem State.setWatch_trcena (h : Word) (w : StopWatch) : (s.setWatch h w).trcena = s.trcena := rfl
@[simp] theorem State.setWatch_cyccntena (h : Word) (w : StopWatch) : (s.setWatch h w).cyccntena = s.cyccntena := rfl
@[simp] theorem State.setWatch_watches (h : Word) (w : StopWatch) : (s.setWatch h w).watches = assocSet h.toNat w s.watches := rfl
@[simp] theorem State.setWatch_fmcen (h : Word) (w : StopWatch) : (s.setWatch h w).fmcen = s.fmcen := rfl
@[simp] theorem State.setWatch_fmcrst (h : Word) (w : StopWatch) : (s.setWatch h w).fmcrst = s.fmcrst := rfl
@[simp] theorem State.setWatch_sdcr1 (h : Word) (w : StopWatch) : (s.setWatch h w).sdcr1 = s.sdcr1 := rfl
@[simp] theorem State.setWatch_sdcr2 (h : Word) (w : StopWatch) : (s.setWatch h w).sdcr2 = s.sdcr2 := rfl
@[simp] theorem State.setWatch_sdtr1 (h : Word) (w : StopWatch) : (s.setWatch h w).sdtr1 = s.sdtr1 := rfl
@[simp] theorem State.setWatch_sdtr2 (h : Word) (w : StopWatch) : (s.setWatch h w).sdtr2 = s.sdtr2 := rfl
@[simp] theorem State.setWatch_sdcmr (h : Word) (w : StopWatch) : (s.setWatch h w).sdcmr = s.sdcmr := rfl
@[simp] theorem State.setWatch_sdrtr (h : Word) (w : StopWatch) : (s.setWatch h w).sdrtr = s.sdrtr := rfl
@[simp] theorem State.setWatch_busy (h : Word) (w : StopWatch) : (s.setWatch h w).busy = s.busy := rfl
@[simp] theorem State.setWatch_fmcPending (h : Word) (w : StopWatch) : (s.setWatch h w).fmcPending = s.fmcPending := rfl
@[simp] theorem State.setWatch_sdramLog (h : Word) (w : StopWatch) : (s.setWatch h w).sdramLog = s.sdramLog := rfl
@[simp] theorem State.setWatch_seqPhase (h : Word) (w : StopWatch) : (s.setWatch h w).seqPhase = s.seqPhase := rfl
@[simp] theorem State.setWatch_seqBank (h : Word) (w : StopWatch) : (s.setWatch h w).seqBank = s.seqBank := rfl
@[simp] theorem State.setWatch_seqResetAfterLive (h : Word) (w : StopWatch) : (s.setWatch h w).seqResetAfterLive = s.seqResetAfterLive := rfl
@[simp] theorem State.setWatch_sdram (h : Word) (w : StopWatch) : (s.setWatch h w).sdram = s.sdram := rfl
@[simp] theorem State.setWatch_gcr (h : Word) (w : StopWatch) : (s.setWatch h w).gcr = s.gcr := rfl
@[simp] theorem State.setWatch_sscr (h : Word) (w : StopWatch) : (s.setWatch h w).sscr = s.sscr := rfl
@[simp] theorem State.setWatch_bpcr (h : Word) (w : StopWatch) : (s.setWatch h w).bpcr = s.bpcr := rfl
@[simp] theorem State.setWatch_awcr (h : Word) (w : StopWatch) : (s.setWatch h w).awcr = s.awcr := rfl
@[simp] theorem State.setWatch_twcr (h : Word) (w : StopWatch) : (s.setWatch h w).twcr = s.twcr := rfl
@[simp] theorem State.setWatch_bccr (h : Word) (w : StopWatch) : (s.setWatch h w).bccr = s.bccr := rfl
@[simp] theorem State.setWatch_srcr (h : Word) (w : StopWatch) : (s.setWatch h w).srcr = s.srcr := rfl
@[simp] theorem State.setWatch_layers (h : Word) (w : StopWatch) : (s.setWatch h w).layers = s.layers := rfl
@[simp] theorem State.setWatch_ltdcLog (h : Word) (w : StopWatch) : (s.setWatch h w).ltdcLog = s.ltdcLog := rfl

@[simp] theorem State.fmcReset_params : (s.fmcReset).params = s.params := rfl
@[simp] theorem State.fmcReset_sched : (s.fmcReset).sched = s.sched := rfl
@[simp] theorem State.fmcReset_draws : (s.fmcReset).draws = s.draws := rfl
@[simp] theorem State.fmcReset_program : (s.fmcReset).program = s.program := rfl
@[simp] theorem State.fmcReset_names : (s.fmcReset).names = s.names := rfl
@[simp] theorem State.fmcReset_lastRead : (s.fmcReset).lastRead = s.lastRead := rfl
@[simp] theorem State.fmcReset_ctx : (s.fmcReset).ctx = s.ctx := rfl
@[simp] theorem State.fmcReset_irq : (s.fmcReset).irq = s.irq := rfl
@[simp] theorem State.fmcReset_res : (s.fmcReset).res = s.res := rfl
@[simp] theorem State.fmcReset_faulted : (s.fmcReset).faulted = s.faulted := rfl
@[simp] theorem State.fmcReset_refused : (s.fmcReset).refused = s.refused := rfl
@[simp] theorem State.fmcReset_imask : (s.fmcReset).imask = s.imask := rfl
@[simp] theorem State.fmcReset_csStack : (s.fmcReset).csStack = s.csStack := rfl
@[simp] theorem State.fmcReset_cyccnt : (s.fmcReset).cyccnt = s.cyccnt := rfl
@[simp] theorem State.fmcReset_trcena : (s.fmcReset).trcena = s.trcena := rfl
@[simp] theorem State.fmcReset_cyccntena : (s.fmcReset).cyccntena = s.cyccntena := rfl
@[simp] theorem State.fmcReset_watches : (s.fmcReset).watches = s.watches := rfl
@[simp] theorem State.fmcReset_fmcen : (s.fmcReset).fmcen = s.fmcen := rfl
@[simp] theorem State.fmcReset_fmcrst : (s.fmcReset).fmcrst = true := rfl
@[simp] theorem State.fmcReset_sdcr1 : (s.fmcReset).sdcr1 = s.params.resetWord .sdcr1 := rfl
@[simp] theorem State.fmcReset_sdcr2 : (s.fmcReset).sdcr2 = s.params.resetWord .sdcr2 := rfl
@[simp] theorem State.fmcReset_sdtr1 : (s.fmcReset).sdtr1 = s.params.resetWord .sdtr1 := rfl
@[simp] theorem State.fmcReset_sdtr2 : (s.fmcReset).sdtr2 = s.params.resetWord .sdtr2 := rfl
@[simp] theorem State.fmcReset_sdcmr : (s.fmcReset).sdcmr = s.params.resetWord .sdcmr := rfl
@[simp] theorem State.fmcReset_sdrtr : (s.fmcReset).sdrtr = s.params.resetWord .sdrtr := rfl
@[simp] theorem State.fmcReset_busy : (s.fmcReset).busy = false := rfl
@[simp] theorem State.fmcReset_fmcPending : (s.fmcReset).fmcPending = none := rfl
@[simp] theorem State.fmcReset_sdramLog : (s.fmcReset).sdramLog = s.sdramLog := rfl
@[simp] theorem State.fmcReset_seqPhase : (s.fmcReset).seqPhase = s.seqPhase := rfl
@[simp] theorem State.fmcReset_seqBank : (s.fmcReset).seqBank = s.seqBank := rfl
@[simp] theorem State.fmcReset_seqResetAfterLive : (s.fmcReset).seqResetAfterLive = (s.seqResetAfterLive || s.seqPhase = .live) := rfl
@[simp] theorem State.fmcReset_sdram : (s.fmcReset).sdram = s.sdram := rfl
@[simp] theorem State.fmcReset_gcr : (s.fmcReset).gcr = s.gcr := rfl
@[simp] theorem State.fmcReset_sscr : (s.fmcReset).sscr = s.sscr := rfl
@[simp] theorem State.fmcReset_bpcr : (s.fmcReset).bpcr = s.bpcr := rfl
@[simp] theorem State.fmcReset_awcr : (s.fmcReset).awcr = s.awcr := rfl
@[simp] theorem State.fmcReset_twcr : (s.fmcReset).twcr = s.twcr := rfl
@[simp] theorem State.fmcReset_bccr : (s.fmcReset).bccr = s.bccr := rfl
@[simp] theorem State.fmcReset_srcr : (s.fmcReset).srcr = s.srcr := rfl
@[simp] theorem State.fmcReset_layers : (s.fmcReset).layers = s.layers := rfl
@[simp] theorem State.fmcReset_ltdcLog : (s.fmcReset).ltdcLog = s.ltdcLog := rfl

end Sys2Proof.Machine
end

