-- ==== Sys2Proof/Laws/Step.lean ====
section
/-! SUPPORT. Everything an operation and a step can do, said once: a property that each primitive change of state keeps is kept
by every host step, every operation and every step of the machine. -/

namespace Sys2Proof.Machine

/-- `P` is kept by each primitive change that the host steps of operations make. -/
structure KeptByOps (P : State → Prop) : Prop where
  ctx : ∀ s c, P s → P { s with ctx := c }
  read : ∀ s r, P s → P (s.regRead r)
  write : ∀ s r w t, P s → s.regWrite r w = .ok t → P t
  mask : ∀ s m st, P s → P { s with imask := m, csStack := st }
  seq : ∀ s b p, P s → P { s with seqBank := b, seqPhase := p }
  res : ∀ s v, P s → P (s.setRes v)
  raise : ∀ s f, P s → P (s.raiseFault f)
  refuse : ∀ s r, P s → P (s.refuse r)
  newWatch : ∀ s h cap freq c, freq ≠ 0 → 2 ≤ cap.toNat → P s → P (s.setWatch h (newWatch cap freq c))
  watch : ∀ s h w w' c, s.watch h = some w → w' = w.lap c ∨ w' = w.restart c ∨ w' = w.advance → P s →
    P (s.setWatch h w')

/-- `P` is kept by each primitive change that a step of the machine makes. -/
structure KeptByAll (P : State → Prop) : Prop extends KeptByOps P where
  turn : ∀ s ms d, P s → P { s with sched := ms, draws := d }
  program : ∀ s p, P s → P { s with program := p }
  irq : ∀ s q, P s → P { s with irq := q }
  record : ∀ s r, P s → P (s.recordRead r)
  names : ∀ s k v, P s → P { s with names := assocSet k v s.names }
  store : ∀ s a bs, P s → P { s with sdram := s.sdramStore s.sdram a bs }
  tick : ∀ s, P s → P s.tickStep
  fmc : ∀ s, P s → P s.fmcStep
  reload : ∀ s, P s → P s.ltdcReloadStep
  vblank : ∀ s, P s → P s.ltdcVBlankStep

variable {P : State → Prop}

theorem KeptByOps.mark (k : KeptByOps P) (s : State) (r : Stop) (h : P s) : P (s.mark r) := by
  cases r
  · exact k.raise _ _ h
  · exact k.refuse _ _ h

theorem KeptByOps.settle (k : KeptByOps P) (s : State) (h : P s) : P s.settle := by
  unfold State.settle; split <;> exact k.ctx _ _ h

theorem KeptByOps.enterPhase (k : KeptByOps P) (s : State) (p : Option SeqPhase) (h : P s) : P (s.enterPhase p) := by
  cases p with
  | none => exact h
  | some p => exact k.seq s s.seqBank p h

theorem KeptByOps.setWait (k : KeptByOps P) (s : State) (w : Option WaitRegs) (h : P s) : P (s.setWait w) :=
  k.ctx _ _ h

/-- The state an act leaves, if it does not stop. -/
def ActResult.state? : ActResult → Option State
  | .done s => some s
  | .stay s => some s
  | .stop _ => none

theorem KeptByOps.writeAct (k : KeptByOps P) {s t : State} {r : Reg} {w : Word} (h : P s)
    (e : (writeAct s r w).state? = some t) : P t := by
  unfold Machine.writeAct at e
  split at e
  · rename_i u hu; cases e; exact k.write _ _ _ _ h hu
  · cases e

theorem KeptByOps.doAct (k : KeptByOps P) {s t : State} {a : Act} (h : P s) (e : (doAct a s).state? = some t) : P t := by
  cases a with
  | read r => cases e; exact k.ctx _ _ (k.read _ _ h)
  | writeMod r m v => exact k.writeAct h e
  | write r w => exact k.writeAct h e
  | enter => cases e; exact k.mask _ _ _ h
  | leave =>
    simp only [Machine.doAct, State.csExit?] at e
    cases hc : s.csStack with
    | nil => rw [hc] at e; cases e
    | cons m ms => rw [hc] at e; cases e; exact k.mask _ _ _ h
  | enterBringup b => cases e; exact k.seq _ _ _ (k.mask _ _ _ h)
  | clockBranch =>
    simp only [Machine.doAct] at e
    by_cases hf : s.fmcen = true
    · simp only [hf, if_true] at e; cases e; exact k.seq _ s.seqBank _ (k.read _ _ h)
    · simp only [hf] at e; cases e; exact k.ctx _ _ (k.read _ _ h)
  | pollClock => simp only [Machine.doAct] at e; split at e <;> (cases e; exact k.read _ _ h)
  | pollReady => simp only [Machine.doAct] at e; split at e <;> (cases e; exact k.read _ _ h)
  | pollReload => simp only [Machine.doAct] at e; split at e <;> (cases e; exact k.read _ _ h)
  | delayStart t =>
    simp only [Machine.doAct, Machine.delayStart] at e
    split at e
    · cases e
    · split at e <;> cases e
      · exact k.read _ _ h
      · exact k.ctx _ _ (k.read _ _ h)
  | delayPoll =>
    simp only [Machine.doAct, Machine.delayPoll] at e
    split at e
    · cases e; exact k.read _ _ h
    · split at e
      · cases e; exact k.read _ _ h
      · split at e <;> (cases e; exact k.ctx _ _ (k.read _ _ h))
  | windowH l x y w h' =>
    simp only [Machine.doAct] at e
    split at e
    · cases e
    · exact k.writeAct h e
  | windowV l y h' => simp only [Machine.doAct] at e; exact k.writeAct h e

theorem KeptByOps.performStep (k : KeptByOps P) {o s : State} {h : HostStep} (ho : P o) (hs : P s) :
    P (performStep o s h) := by
  unfold Machine.performStep
  split
  · rename_i t e; exact k.settle _ (k.enterPhase _ _ (k.doAct hs (by rw [e]; rfl)))
  · rename_i t e; exact k.settle _ (k.ctx _ _ (k.doAct hs (by rw [e]; rfl)))
  · exact k.mark _ _ ho

theorem KeptByOps.continueOp (k : KeptByOps P) {s : State} (h : P s) : P s.continueOp := by
  unfold State.continueOp
  split
  · exact h
  · exact k.performStep h (k.ctx _ _ h)

theorem KeptByOps.beginSteps (k : KeptByOps P) {s : State} (l : List HostStep) (h : P s) : P (s.beginSteps l) := by
  unfold State.beginSteps
  split
  · exact h
  · exact k.performStep h (k.ctx _ _ h)

theorem KeptByOps.beginActs (k : KeptByOps P) {s : State} (l : List Act) (h : P s) : P (s.beginActs l) :=
  k.beginSteps _ h

/-- An operation that answers `t` keeps `P`. -/
theorem KeptByOps.exec_next (k : KeptByOps P) {i : Instr} {s t : State} (h : P s) (e : Machine.exec i s = .next t) :
    P t := by
  cases shape_of_exec e with
  | refuse r => exact k.refuse _ _ h
  | raise f => exact k.raise _ _ h
  | res v => exact k.res _ _ h
  | readRes r v => exact k.res _ _ (k.read _ _ h)
  | newWatch hd cap freq hf hc _ => exact k.newWatch _ hd cap freq _ hf hc (k.read _ _ h)
  | lap hd w hw => exact k.watch _ hd w _ s.cyccnt hw (.inl rfl) (k.read _ _ h)
  | restart hd w hw => exact k.watch _ hd w _ s.cyccnt hw (.inr (.inl rfl)) (k.read _ _ h)
  | iter hd w v hw => exact k.res _ _ (k.watch _ hd w _ s.cyccnt hw (.inr (.inr rfl)) h)
  | steps l _ => exact k.beginSteps _ h

theorem KeptByAll.irqFinish (k : KeptByAll P) {s t : State} {a : Activation} (hs : P s) (ht : P t) :
    P (irqFinish s a t) := by
  unfold Machine.irqFinish
  split
  · exact ht
  · split
    · exact ht
    · split
      · exact k.irq _ none (k.ctx _ a.saved ht)
      · exact k.refuse _ _ hs

theorem KeptByAll.irqStep (k : KeptByAll P) {s t : State} (h : P s) (e : irqStepWith Machine.exec s = .next t) : P t := by
  unfold irqStepWith at e
  split at e
  · cases e; exact h
  · split at e
    · cases e; unfold State.irqBegin; split
      · exact k.irq _ _ (k.ctx _ Ctx.idle h)
      · exact h
    · unfold irqRunWith at e
      split at e
      · cases e; exact k.irqFinish h (k.continueOp h)
      · split at e
        · cases e; exact k.irqFinish h h
        · dsimp only at e
          split at e
          · rename_i u hu
            cases e
            refine k.irqFinish h ?_
            have hq := fun q => k.irq s q h
            rename_i i rest _ _
            cases i with
            | op o => exact k.exec_next (hq _) hu
            | regRead r =>
              simp only [irqItemWith, State.rawRead] at hu
              split at hu
              · cases hu; exact k.read _ _ (hq _)
              · cases hu
            | regWrite r w =>
              simp only [irqItemWith, State.rawWrite] at hu
              split at hu
              · split at hu
                · rename_i v hv; cases hu; exact k.write _ _ _ _ (hq _) hv
                · cases hu; exact k.raise _ _ (hq _)
              · cases hu
          · cases e
          · cases e

theorem KeptByAll.busRead (k : KeptByAll P) {s t : State} {a n : Nat} (h : P s) (e : s.busRead a n = .next t) : P t := by
  unfold State.busRead at e
  split at e <;> cases e
  · exact k.read _ _ h
  · exact k.refuse _ _ h
  · exact k.raise _ _ h
  · exact k.record _ _ h

theorem KeptByAll.busWrite (k : KeptByAll P) {s t : State} {a : Nat} {bs : List Byte} (h : P s)
    (e : s.busWrite a bs = .next t) : P t := by
  unfold State.busWrite at e
  split at e <;> cases e
  · exact k.refuse _ _ h
  · exact k.raise _ _ h
  · exact k.store _ _ _ h

theorem KeptByAll.hostAct (k : KeptByAll P) {s t : State} {a : HostAct} (h : P s)
    (e : hostActWith Machine.exec a s = .next t) : P t := by
  cases a with
  | op parts =>
    simp only [hostActWith] at e
    split at e
    · cases e; exact k.refuse _ _ h
    · split at e
      · exact k.exec_next h e
      · cases e; exact k.refuse _ _ h
      · cases e; exact k.refuse _ _ h
  | command w =>
    simp only [hostActWith] at e
    split at e
    · exact k.exec_next h e
    · cases e; exact k.refuse _ _ h
  | readRes n =>
    simp only [hostActWith, State.readRes] at e
    split at e
    · cases e; exact k.raise _ _ h
    · cases e; exact k.names _ _ _ (k.record _ _ h)
  | memRead a n => exact k.busRead h e
  | memWrite a bs => exact k.busWrite h e

theorem KeptByAll.hostStep (k : KeptByAll P) {s t : State} (h : P s) (e : hostStepWith Machine.exec s = .next t) : P t := by
  unfold hostStepWith at e
  split at e
  · cases e; exact h
  · split at e
    · cases e; exact k.continueOp h
    · split at e
      · cases e; exact h
      · exact k.hostAct (k.program _ _ h) e

theorem KeptByAll.takeMover (k : KeptByAll P) {s : State} (h : P s) : P s.takeMover.2 := by
  unfold State.takeMover
  split
  · exact k.turn s _ s.draws h
  · exact k.turn s s.sched _ h

/-- Every step of the machine keeps `P`. -/
theorem KeptByAll.step (k : KeptByAll P) {s t : State} (h : P s) (e : Machine.step s = .next t) : P t := by
  unfold Machine.step stepWith at e
  split at e
  · have hm := k.takeMover h
    unfold agentStepWith at e
    split at e
    · exact k.hostStep hm e
    · cases e; exact k.tick _ hm
    · cases e; exact k.fmc _ hm
    · cases e; exact k.reload _ hm
    · cases e; exact k.vblank _ hm
    · exact k.irqStep hm e
  · cases e; exact k.refuse _ _ h

end Sys2Proof.Machine
end

