-- ==== Sys2Proof/Machine/Pseudo.lean ====
section
/-! DEFINITION. The source's API names as pseudo-operations (30_encoding.md R110): each stands for operations of the block. -/

namespace Sys2Proof.Machine

/-- A call of the source's API (R110). -/
inductive ApiCall where
  | now
  | elapsed (since : Word)
  | wait (d : Duration)
  | delayUs (n : Word)
  | delayMs (n : Word)
  | delaySecs32 (s : Word)
  | delaySecs64 (s : DWord)
  | lap (h : Word)
  | lapTime (h n : Word)
  | reset (h : Word)
  /-- the laps of StopWatch `h`, of which `laps` are left: the call after the last returns none -/
  | iterateLaps (h : Word) (laps : Nat)
  | nanosToCycles (ns clockFreq divisor subtract minimum : Word)
  | refreshCounter (periodNs clockFreq divisor rowCount : Word)
  | setTiming (spec : DisplayTimingSpec)
  | windowingConfigXywh (layer : Byte) (x y w h : BitVec 16)
  | reload (mode : Byte)
  | ready
  | reloadImmediateAndBlock
  | interruptsMasked (body : List Instr)
  deriving DecidableEq, Repr

/-- The operations a call stands for (R110). -/
def ApiCall.expand : ApiCall → List Instr
  | .now => [.ccNow]
  | .elapsed since => [.ccElapsed since]
  | .wait d => [.dlyDuration d]
  | .delayUs n => [.dlyUs n]
  | .delayMs n => [.dlyMs n]
  | .delaySecs32 s => [.dlySF32 s]
  | .delaySecs64 s => [.dlySF64 s]
  | .lap h => [.swLap h]
  | .lapTime h n => [.swLapTime h n]
  | .reset h => [.swReset h]
  | .iterateLaps h laps => List.replicate (laps + 1) (.swIterNext h)
  | .nanosToCycles ns f d sub mn => [.tcNanosToCycles ns f d sub mn]
  | .refreshCounter p f d rows => [.tcRefreshCounter p f d rows]
  | .setTiming spec => [.ltSetTiming spec]
  | .windowingConfigXywh l x y w h => [.ltWindowXywh l x y w h]
  | .reload m => [.ltReload m]
  | .ready => [.ltReady]
  | .reloadImmediateAndBlock => [.ltReload 0, .ltWaitReady]
  | .interruptsMasked body => .csEnter :: body ++ [.csExit]

end Sys2Proof.Machine
end

