-- ==== Sys2Proof/Machine/Text.lean ====
section
/-! DEFINITION. The textual syntax of an operation (30_encoding.md R109): the mnemonic, then the operands in R105's order. A
name bound to a result is written by the host (`OpPart.name`, log 28), not here. -/

namespace Sys2Proof.Machine

/-- A number, decimal (R109). -/
def numText {w : Nat} (v : BitVec w) : String := toString v.toNat

/-- Pieces with a comma between them (R109). -/
def commaText : List String → String
  | [] => ""
  | [a] => a
  | a :: b :: rest => a ++ ", " ++ commaText (b :: rest)

/-- A record of named fields (R109). -/
def recordText (fields : List (String × String)) : String :=
  String.singleton (Char.ofNat 123) ++ commaText (fields.map fun f => f.1 ++ ": " ++ f.2) ++
    String.singleton (Char.ofNat 125)

/-- `k` decimal digits of the fraction `n / 2^scale`. -/
def fractionDigits (scale : Nat) : Nat → Nat → String
  | 0, _ => ""
  | k + 1, n => toString (n * 10 / 2 ^ scale) ++ fractionDigits scale k (n * 10 % 2 ^ scale)

/-- A finite floating-point value in full: every digit of its decimal expansion. The other values have no literal (log 28). -/
def floatText (F : FloatFormat) (b : Nat) : String :=
  if F.isNaN b then "NaN"
  else
    (if F.sign b = 1 then "-" else "") ++
      if F.special b then "Infinity"
      else
        toString (F.magnitude b / 2 ^ F.scale) ++ "." ++
          fractionDigits F.scale F.scale (F.magnitude b % 2 ^ F.scale)

/-- A duration (R109). -/
def durationText (d : Duration) : String :=
  (match d.form with
  | .ticks t => "ticks(" ++ numText t ++ ")"
  | .nanos n => "nanos(" ++ numText n ++ ")"
  | .secs32 s => "secs32(" ++ floatText binary32 s.toNat ++ ")"
  | .secs64 s => "secs64(" ++ floatText binary64 s.toNat ++ ")") ++
  (match d.freq with
  | none => ""
  | some f => " @ " ++ numText f)

/-- An optional field. -/
def optionText {α : Type} (text : α → String) : Option α → String
  | none => "none"
  | some v => "some " ++ text v

/-- The nanosecond fields of a timing record (43_timing_calc.md R200). -/
def timingFields (t : TimingNs) : List (String × String) :=
  [("t_rcd_ns", numText t.rcd), ("t_rp_ns", numText t.rp), ("t_wr_ns", numText t.wr), ("t_rc_ns", numText t.rc),
    ("t_ras_ns", numText t.ras), ("t_xsr_ns", numText t.xsr), ("t_mrd_ns", numText t.mrd),
    ("refresh_period_ns", numText t.refreshPeriod)]

/-- A geometry record (44_sdram_sequencer.md R222). -/
def geometryText (g : Geometry) : String :=
  recordText
    [("col_bits", numText g.colBits), ("row_bits", numText g.rowBits), ("data_width", numText g.dataWidth),
      ("internal_banks", numText g.internalBanks), ("cas_latency", numText g.casLatency),
      ("write_protect", numText g.writeProtect), ("sdclk_div", numText g.sdclkDiv),
      ("read_burst", numText g.readBurst), ("read_pipe", numText g.readPipe)]

/-- The fields of a mode record (R222, R244). -/
def modeFields (m : ModeConfig) : List (String × String) :=
  [("burst_length", numText m.burstLength),
    ("burst_type", if m.burstType = 0 then "Sequential" else if m.burstType = 1 then "Interleaved" else numText m.burstType),
    ("op_mode", if m.opMode = 0 then "Standard" else numText m.opMode),
    ("write_burst", if m.writeBurst = 0 then "Programmed" else if m.writeBurst = 1 then "Single" else numText m.writeBurst)]

/-- A display timing record (45_ltdc.md R270). -/
def displayTimingText (t : DisplayTimingSpec) : String :=
  recordText
    [("h_sync", numText t.hSync), ("h_back_porch", numText t.hBackPorch), ("h_active", numText t.hActive),
      ("h_front_porch", numText t.hFrontPorch), ("v_sync", numText t.vSync), ("v_back_porch", numText t.vBackPorch),
      ("v_active", numText t.vActive), ("v_front_porch", numText t.vFrontPorch)]

/-- A layer's colour key as a pair (R282, R300). -/
def colorKeyText (k : ColorKey) : String := "(" ++ numText k.fmt ++ ", " ++ numText k.key ++ ")"

/-- A layer record (R300). -/
def layerText (l : LayerConfig) : String :=
  recordText
    [("layer", numText l.layer), ("pf", numText l.pf), ("default_color", numText l.defaultColor),
      ("const_alpha", numText l.constAlpha), ("bf1", numText l.bf1), ("bf2", numText l.bf2),
      ("color_key", optionText colorKeyText l.colorKey), ("x", numText l.x), ("y", numText l.y), ("w", numText l.w),
      ("h", numText l.h), ("fb_addr", optionText numText l.fbAddr)]

/-- The configuration record of LT_SETUP (R300). -/
def ltdcConfigText (c : LtdcConfig) : String :=
  recordText
    [("bg", numText c.bg),
      ("pol", recordText [("hs", numText c.hs), ("vs", numText c.vs), ("de", numText c.de), ("pc", numText c.pc)]),
      ("timing", displayTimingText c.timing), ("layers", "[" ++ commaText (c.layers.map layerText) ++ "]")]

/-- The operands of an operation, in R105's order (R109); of a command word, its fields from the least significant up
(30_encoding.md R112). -/
def operandTexts : Instr → List String
  | .ccNow => []
  | .ccElapsed a => [numText a]
  | .ccEnable => []
  | .durToTicks d => [durationText d]
  | .dlyTicks t => [numText t]
  | .dlyUs n => [numText n]
  | .dlyMs n => [numText n]
  | .dlySF32 x => [floatText binary32 x.toNat]
  | .dlySF64 x => [floatText binary64 x.toNat]
  | .dlyDuration d => [durationText d]
  | .swNew h c f => [numText h, numText c, numText f]
  | .swLap h => [numText h]
  | .swLapTime h n => [numText h, numText n]
  | .swReset h => [numText h]
  | .swIterNext h => [numText h]
  | .tcNanosToCycles a b c d e => [numText a, numText b, numText c, numText d, numText e]
  | .tcRefreshCounter a b c d => [numText a, numText b, numText c, numText d]
  | .tcConvertSpec t f d =>
    [recordText (timingFields t.ns ++ [("row_bits", numText t.rowBits), ("sdclk_div", numText t.sdclkDiv)]), numText f,
      numText d]
  | .sdBringup b c =>
    [numText b,
      recordText [("geometry", geometryText c.geometry), ("timing", recordText (timingFields c.timing)),
        ("mode", recordText (modeFields c.mode))]]
  | .sdSendCmd b m n d => [numText b, numText m, numText n, numText d]
  | .sdWaitReady => []
  | .sdModeWord mp =>
    let fs := modeFields mp.mode
    [recordText (fs.take 2 ++ [("cas_latency", numText mp.casLatency)] ++ fs.drop 2)]
  | .ltSetTiming t => [displayTimingText t]
  | .ltWindow l a b c d => [numText l, numText a, numText b, numText c, numText d]
  | .ltWindowXywh l a b c d => [numText l, numText a, numText b, numText c, numText d]
  | .ltReload m => [numText m]
  | .ltReady => []
  | .ltWaitReady => []
  | .ltBgcolor c => [numText c]
  | .ltPolarity a b c d => [numText a, numText b, numText c, numText d]
  | .ltPixelFormat l p => [numText l, numText p]
  | .ltDefaultColor l c => [numText l, numText c]
  | .ltConstAlpha l a => [numText l, numText a]
  | .ltBlend l a b => [numText l, numText a, numText b]
  | .ltColorKey l f k => [numText l, numText f, numText k]
  | .ltLineConfig l w b n => [numText l, numText w, numText b, numText n]
  | .ltFbAddr l a => [numText l, numText a]
  | .ltLayerEnable l => [numText l]
  | .ltDitherEnable => []
  | .ltEnable => []
  | .ltSetup c => [ltdcConfigText c]
  | .ltRgb565To888 c => [numText c]
  | .csEnter => []
  | .csExit => []
  | .rccFmcEnable => []
  | .rccFmcResetPulse => []
  | .clkFreq => []
  | .sdcmdClk b2 b1 n m => [toString b2.toNat, toString b1.toNat, numText n, numText m]
  | .sdcmdPall b2 b1 n m => [toString b2.toNat, toString b1.toNat, numText n, numText m]
  | .sdcmdAref b2 b1 n m => [toString b2.toNat, toString b1.toNat, numText n, numText m]
  | .sdcmdLmr b2 b1 n m => [toString b2.toNat, toString b1.toNat, numText n, numText m]

/-- An operation as text (R109). -/
def Instr.text (i : Instr) : String :=
  match operandTexts i with
  | [] => i.mnemonic
  | a :: rest => i.mnemonic ++ " " ++ commaText (a :: rest)

/-- A line that binds the operation's result to a name (R109). -/
def boundText (name : String) (i : Instr) : String := "%" ++ name ++ " = " ++ Instr.text i

end Sys2Proof.Machine
end

