-- ==== Sys2Proof/Tests/Slice0.lean ====
section
/-! SUPPORT. Tests of one step each. Expected values come from spec/95_test_vectors.md (named V and W) or are worked out by hand
from the rule named; then a witness for the hypotheses of every statement that has some. -/

namespace Sys2Proof.Tests

open Sys2Proof.Machine

set_option Elab.async false

/-! ### Helpers -/

/-- The bytes decode to exactly this instruction. -/
def decodes (bs : List Byte) (i : Instr) : Bool :=
  match decode bs with
  | .ok (j, rest) => decide (j = i) && rest.isEmpty
  | .error _ => false

/-- The first host step of `i`, then `k` more, leave a state with this property. -/
def gives (i : Instr) (s : State) (k : Nat) (f : State → Bool) : Bool :=
  match exec i s with
  | .next t => f (t.continueFor k)
  | .fault _ => false
  | .refused _ => false

def refuses (i : Instr) (s : State) (r : Refusal) : Bool :=
  gives i s 0 fun t => t.refused == some r && t.res == s.res && t.program == s.program

/-- A step of the machine answers a next state with this property. -/
def steps (s : State) (f : State → Bool) : Bool :=
  match step s with
  | .next t => f t
  | .fault _ => false
  | .refused _ => false

def s0 : State := State.reset
/-- The counter runs, at a count. -/
def running (c : Word) : State := { s0 with trcena := true, cyccntena := true, cyccnt := c }
/-- The FMC is clocked. -/
def fmcOn : State := { s0 with fmcen := true }
/-- Bank 1 is live, and a command is pending. -/
def upPending : State :=
  { fmcOn with sdcr1 := 0x19D4, busy := true, fmcPending := some 0x1A, seqPhase := .live, seqBank := some .bankA }
/-- StopWatch 1 with three slots, two laps made. -/
def sw3 : StopWatch := ⟨3, [some 0, some 10, some 30], 2, 168000000, 1⟩
def watching : State := { running 60 with watches := [(1, sw3)] }
/-- The timing of P4. -/
def ns4 : TimingNs := ⟨18, 18, 12, 60, 42, 70, 12, 64000000⟩
def spec4 : TimingSpecNs := ⟨ns4, 12, 2⟩
/-- The configuration of P4. -/
def cfg4 : SdramConfig := ⟨⟨8, 12, 16, 4, 3, 0, 2, 1, 0⟩, ns4, ⟨2, 0, 0, 1⟩⟩
/-- The timing of V6.1. -/
def t61 : DisplayTimingSpec := ⟨10, 20, 800, 10, 2, 2, 480, 4⟩
/-- The layer and the configuration of P5. -/
def layer5 : LayerConfig := ⟨1, 2, 0, 255, 4, 5, some ⟨1, 0xF800⟩, 0, 0, 800, 480, some 0xD0000000⟩
def cfg5 : LtdcConfig := ⟨0, 0, 0, 0, 0, t61, [layer5]⟩

/-! ### WellFormed: for each check an ill-formed term that it refuses -/

theorem smoke_duration : Instr.wf 2 {} (.durToTicks ⟨.ticks 5, some 0⟩) = false := by decide
theorem smoke_delay_duration : Instr.wf 2 {} (.dlyDuration ⟨.nanos 5, some 0⟩) = false := by decide
theorem smoke_stopwatch_frequency : Instr.wf 2 {} (.swNew 1 2 0) = false := by decide
theorem smoke_row_bits : Instr.wf 2 {} (.tcConvertSpec { spec4 with rowBits := 10 } 1 2) = false := by decide
theorem smoke_spec_divisor : Instr.wf 2 {} (.tcConvertSpec { spec4 with sdclkDiv := 1 } 1 2) = false := by decide
theorem smoke_spec_clock : Instr.wf 2 {} (.tcConvertSpec spec4 0 2) = false := by decide
theorem smoke_bank : Instr.wf 2 {} (.sdBringup 3 cfg4) = false := by decide
theorem smoke_write_protect : Instr.wf 2 {} (.sdBringup 0 { cfg4 with geometry := { cfg4.geometry with writeProtect := 2 } }) = false := by decide
theorem smoke_read_burst : Instr.wf 2 {} (.sdBringup 0 { cfg4 with geometry := { cfg4.geometry with readBurst := 2 } }) = false := by decide
theorem smoke_command_bank : Instr.wf 2 {} (.sdSendCmd 3 2 0 0) = false := by decide
theorem smoke_command_mode : Instr.wf 2 {} (.sdSendCmd 0 8 0 0) = false := by decide
theorem smoke_nrfs : Instr.wf 2 {} (.sdSendCmd 0 2 16 0) = false := by decide
theorem smoke_mrd : Instr.wf 2 {} (.sdSendCmd 0 2 0 8192) = false := by decide
theorem smoke_burst_length : Instr.wf 2 {} (.sdModeWord ⟨⟨16, 0, 0, 1⟩, 3⟩) = false := by decide
theorem smoke_burst_type : Instr.wf 2 {} (.sdModeWord ⟨⟨2, 2, 0, 1⟩, 3⟩) = false := by decide
theorem smoke_op_mode : Instr.wf 2 {} (.sdModeWord ⟨⟨2, 0, 1, 1⟩, 3⟩) = false := by decide
theorem smoke_write_burst : Instr.wf 2 {} (.sdModeWord ⟨⟨2, 0, 0, 2⟩, 3⟩) = false := by decide
theorem smoke_cas : Instr.wf 2 {} (.sdModeWord ⟨⟨2, 0, 0, 1⟩, 4⟩) = false := by decide
theorem smoke_window_layer : Instr.wf 2 {} (.ltWindow 3 0 0 0 0) = false := by decide
theorem smoke_window_layer_zero : Instr.wf 2 {} (.ltWindow 0 0 0 0 0) = false := by decide
theorem smoke_xywh_layer : Instr.wf 2 {} (.ltWindowXywh 3 0 0 1 1) = false := by decide
theorem smoke_reload_mode : Instr.wf 2 {} (.ltReload 2) = false := by decide
theorem smoke_background : Instr.wf 2 {} (.ltBgcolor 0x01000000) = false := by decide
theorem smoke_polarity : Instr.wf 2 {} (.ltPolarity 0 0 0 2) = false := by decide
theorem smoke_pixel_format : Instr.wf 2 {} (.ltPixelFormat 1 8) = false := by decide
theorem smoke_pixel_layer : Instr.wf 2 {} (.ltPixelFormat 3 0) = false := by decide
theorem smoke_color_layer : Instr.wf 2 {} (.ltDefaultColor 3 0) = false := by decide
theorem smoke_alpha_layer : Instr.wf 2 {} (.ltConstAlpha 0 0) = false := by decide
theorem smoke_blend_code : Instr.wf 2 {} (.ltBlend 1 8 5) = false := by decide
theorem smoke_key_format : Instr.wf 2 {} (.ltColorKey 1 2 0) = false := by decide
theorem smoke_key_width : Instr.wf 2 {} (.ltColorKey 1 0 0x01000000) = false := by decide
theorem smoke_line_layer : Instr.wf 2 {} (.ltLineConfig 3 1 1 1) = false := by decide
theorem smoke_address_layer : Instr.wf 2 {} (.ltFbAddr 3 0) = false := by decide
theorem smoke_enable_layer : Instr.wf 2 {} (.ltLayerEnable 3) = false := by decide
theorem smoke_no_layers : Instr.wf 2 {} (.ltSetup { cfg5 with layers := [] }) = false := by decide
theorem smoke_too_many_layers : Instr.wf 2 {} (.ltSetup { cfg5 with layers := [layer5, layer5, layer5] }) = false := by decide
theorem smoke_repeated_layer : Instr.wf 2 {} (.ltSetup { cfg5 with layers := [layer5, layer5] }) = false := by decide
theorem smoke_setup_polarity : Instr.wf 2 {} (.ltSetup { cfg5 with hs := 2 }) = false := by decide
theorem smoke_setup_layer : Instr.wf 2 {} (.ltSetup { cfg5 with layers := [{ layer5 with layer := 3 }] }) = false := by decide
theorem smoke_setup_key : Instr.wf 2 {} (.ltSetup { cfg5 with layers := [{ layer5 with colorKey := some ⟨2, 0⟩ }] }) = false := by decide
theorem smoke_well_formed :
    ([.sdBringup 2 cfg4, .sdSendCmd 2 7 15 8191, .sdModeWord ⟨⟨8, 1, 0, 0⟩, 1⟩, .tcConvertSpec spec4 1 0, .ltSetup cfg5] : List Instr).all
      (Instr.wf 2 {}) = true := by decide

/-! ### Decoding: a word of every constructor, written out from 30_encoding.md R105 (byte layout: log 4) -/

theorem decode_cc_now : decodes [0x01] .ccNow = true := by decide
theorem decode_cc_elapsed : decodes [0x02, 0xF0, 0xFF, 0xFF, 0xFF] (.ccElapsed 0xFFFFFFF0) = true := by decide
theorem decode_cc_enable : decodes [0x03] .ccEnable = true := by decide
theorem decode_dur_to_ticks : decodes
    [0x04, 0x01, 0xE8, 0x03, 0x00, 0x00, 0x00, 0x00, 0x00, 0x00, 0x01, 0x00, 0x7A, 0x03, 0x0A]
    (.durToTicks ⟨.nanos 1000, some 168000000⟩) = true := by decide
theorem decode_dly_ticks : decodes
    [0x10, 0x0A, 0x00, 0x00, 0x80, 0x00, 0x00, 0x00, 0x00]
    (.dlyTicks 0x8000000A) = true := by decide
theorem decode_dly_us : decodes [0x11, 0xF4, 0x01, 0x00, 0x00] (.dlyUs 500) = true := by decide
theorem decode_dly_ms : decodes [0x12, 0x04, 0x03, 0x02, 0x01] (.dlyMs 0x01020304) = true := by decide
theorem decode_dly_s_f32 : decodes [0x13, 0x00, 0x00, 0x00, 0x3F] (.dlySF32 0x3F000000) = true := by decide
theorem decode_dly_s_f64 : decodes
    [0x14, 0x00, 0x00, 0x00, 0x00, 0x00, 0x00, 0x00, 0x40]
    (.dlySF64 0x4000000000000000) = true := by decide
theorem decode_dly_duration : decodes
    [0x15, 0x02, 0x00, 0x00, 0x80, 0x3F, 0x00]
    (.dlyDuration ⟨.secs32 0x3F800000, none⟩) = true := by decide
theorem decode_sw_new : decodes
    [0x20, 0x01, 0x00, 0x00, 0x00, 0x03, 0x00, 0x00, 0x00, 0x00, 0x7A, 0x03, 0x0A]
    (.swNew 1 3 168000000) = true := by decide
theorem decode_sw_lap : decodes [0x21, 0x09, 0x00, 0x00, 0x00] (.swLap 9) = true := by decide
theorem decode_sw_lap_time : decodes
    [0x22, 0x01, 0x00, 0x00, 0x00, 0x02, 0x00, 0x00, 0x00]
    (.swLapTime 1 2) = true := by decide
theorem decode_sw_reset : decodes [0x23, 0x07, 0x00, 0x00, 0x00] (.swReset 7) = true := by decide
theorem decode_sw_iter_next : decodes [0x24, 0x08, 0x00, 0x00, 0x00] (.swIterNext 8) = true := by decide
theorem decode_tc_nanos_to_cycles : decodes
    [0x30, 0x3C, 0x00, 0x00, 0x00, 0x00, 0x95, 0xBA, 0x0A, 0x02, 0x00, 0x00, 0x00, 0x01, 0x00, 0x00, 0x00, 0x04,
    0x00, 0x00, 0x00]
    (.tcNanosToCycles 60 180000000 2 1 4) = true := by decide
theorem decode_tc_refresh_counter : decodes
    [0x31, 0x00, 0x90, 0xD0, 0x03, 0x00, 0x95, 0xBA, 0x0A, 0x02, 0x00, 0x00, 0x00, 0x00, 0x10, 0x00, 0x00]
    (.tcRefreshCounter 64000000 180000000 2 4096) = true := by decide
theorem decode_tc_convert_spec : decodes
    [0x32, 0x12, 0x00, 0x00, 0x00, 0x12, 0x00, 0x00, 0x00, 0x0C, 0x00, 0x00, 0x00, 0x3C, 0x00, 0x00, 0x00, 0x2A,
    0x00, 0x00, 0x00, 0x46, 0x00, 0x00, 0x00, 0x0C, 0x00, 0x00, 0x00, 0x00, 0x90, 0xD0, 0x03, 0x0C, 0x00, 0x00,
    0x00, 0x02, 0x00, 0x00, 0x00, 0x00, 0x95, 0xBA, 0x0A, 0x03, 0x00, 0x00, 0x00]
    (.tcConvertSpec spec4 180000000 3) = true := by decide
theorem decode_sd_bringup : decodes
    [0x40, 0x02, 0x08, 0x00, 0x00, 0x00, 0x0C, 0x00, 0x00, 0x00, 0x10, 0x00, 0x00, 0x00, 0x04, 0x00, 0x00, 0x00,
    0x03, 0x00, 0x00, 0x00, 0x00, 0x02, 0x00, 0x00, 0x00, 0x01, 0x00, 0x00, 0x00, 0x00, 0x12, 0x00, 0x00, 0x00,
    0x12, 0x00, 0x00, 0x00, 0x0C, 0x00, 0x00, 0x00, 0x3C, 0x00, 0x00, 0x00, 0x2A, 0x00, 0x00, 0x00, 0x46, 0x00,
    0x00, 0x00, 0x0C, 0x00, 0x00, 0x00, 0x00, 0x90, 0xD0, 0x03, 0x02, 0x00, 0x00, 0x00, 0x00, 0x00, 0x01]
    (.sdBringup 2 cfg4) = true := by decide
theorem decode_sd_send_cmd : decodes [0x41, 0x01, 0x04, 0x07, 0x31, 0x03] (.sdSendCmd 1 4 7 0x331) = true := by decide
theorem decode_sd_wait_ready : decodes [0x42] .sdWaitReady = true := by decide
theorem decode_sd_mode_word : decodes
    [0x43, 0x02, 0x00, 0x00, 0x00, 0x00, 0x03, 0x00, 0x00, 0x00, 0x00, 0x01]
    (.sdModeWord ⟨⟨2, 0, 0, 1⟩, 3⟩) = true := by decide
theorem decode_lt_set_timing : decodes
    [0x50, 0x0A, 0x00, 0x14, 0x00, 0x20, 0x03, 0x0A, 0x00, 0x02, 0x00, 0x02, 0x00, 0xE0, 0x01, 0x04, 0x00]
    (.ltSetTiming t61) = true := by decide
theorem decode_lt_window : decodes
    [0x51, 0x01, 0x1E, 0x00, 0x3D, 0x03, 0x04, 0x00, 0xE3, 0x01]
    (.ltWindow 1 30 829 4 483) = true := by decide
theorem decode_lt_window_xywh : decodes
    [0x52, 0x02, 0x0A, 0x00, 0x14, 0x00, 0x64, 0x00, 0x32, 0x00]
    (.ltWindowXywh 2 10 20 100 50) = true := by decide
theorem decode_lt_reload : decodes [0x53, 0x01] (.ltReload 1) = true := by decide
theorem decode_lt_ready : decodes [0x54] .ltReady = true := by decide
theorem decode_lt_wait_ready : decodes [0x55] .ltWaitReady = true := by decide
theorem decode_lt_bgcolor : decodes [0x56, 0x56, 0x34, 0x12, 0x00] (.ltBgcolor 0x123456) = true := by decide
theorem decode_lt_polarity : decodes [0x57, 0x01, 0x00, 0x01, 0x00] (.ltPolarity 1 0 1 0) = true := by decide
theorem decode_lt_pixel_format : decodes [0x58, 0x01, 0x02] (.ltPixelFormat 1 2) = true := by decide
theorem decode_lt_default_color : decodes
    [0x59, 0x02, 0x00, 0x00, 0x00, 0xFF]
    (.ltDefaultColor 2 0xFF000000) = true := by decide
theorem decode_lt_const_alpha : decodes [0x5A, 0x01, 0xFF] (.ltConstAlpha 1 255) = true := by decide
theorem decode_lt_blend : decodes [0x5B, 0x01, 0x04, 0x05] (.ltBlend 1 4 5) = true := by decide
theorem decode_lt_color_key : decodes [0x5C, 0x01, 0x01, 0x00, 0xF8, 0x00, 0x00] (.ltColorKey 1 1 0xF800) = true := by decide
theorem decode_lt_line_config : decodes
    [0x5D, 0x01, 0x20, 0x03, 0x02, 0xE0, 0x01]
    (.ltLineConfig 1 800 2 480) = true := by decide
theorem decode_lt_fb_addr : decodes [0x5E, 0x01, 0x00, 0x00, 0x00, 0xD0] (.ltFbAddr 1 0xD0000000) = true := by decide
theorem decode_lt_layer_enable : decodes [0x5F, 0x02] (.ltLayerEnable 2) = true := by decide
theorem decode_lt_dither_enable : decodes [0x60] .ltDitherEnable = true := by decide
theorem decode_lt_enable : decodes [0x61] .ltEnable = true := by decide
theorem decode_lt_setup : decodes
    [0x62, 0x00, 0x00, 0x00, 0x00, 0x00, 0x00, 0x00, 0x00, 0x0A, 0x00, 0x14, 0x00, 0x20, 0x03, 0x0A, 0x00, 0x02,
    0x00, 0x02, 0x00, 0xE0, 0x01, 0x04, 0x00, 0x01, 0x01, 0x02, 0x00, 0x00, 0x00, 0x00, 0xFF, 0x04, 0x05, 0x01,
    0x01, 0x00, 0xF8, 0x00, 0x00, 0x00, 0x00, 0x00, 0x00, 0x20, 0x03, 0xE0, 0x01, 0x01, 0x00, 0x00, 0x00, 0xD0]
    (.ltSetup cfg5) = true := by decide
theorem decode_lt_rgb565_to_888 : decodes [0x63, 0x10, 0x84] (.ltRgb565To888 0x8410) = true := by decide
theorem decode_cs_enter : decodes [0x70] .csEnter = true := by decide
theorem decode_cs_exit : decodes [0x71] .csExit = true := by decide
theorem decode_rcc_fmc_enable : decodes [0x72] .rccFmcEnable = true := by decide
theorem decode_rcc_fmc_reset_pulse : decodes [0x73] .rccFmcResetPulse = true := by decide
theorem decode_clk_freq : decodes [0x74] .clkFreq = true := by decide
/-- V5.2: MODE 001, CTB2 at bit 3, CTB1 at bit 4. -/
theorem decode_sdcmd_clk : decodeCommand 0x00000019 = some (.sdcmdClk true true 0 0) := by decide
/-- V5.9: bank 2 alone is bit 3. -/
theorem decode_sdcmd_pall : decodeCommand 0x0000000A = some (.sdcmdPall true false 0 0) := by decide
/-- V5.1: NRFS at [8:5]. -/
theorem decode_sdcmd_aref : decodeCommand 0x000000FB = some (.sdcmdAref true true 7 0) := by decide
/-- V5.8: MRD at [21:9]. -/
theorem decode_sdcmd_lmr : decodeCommand 0x00066214 = some (.sdcmdLmr false true 0 0x331) := by decide
/-- R112, R113: MODE 0 and 5, and bit 22. -/
theorem decode_command_refused :
    decodeCommand 0x18 = none ∧ decodeCommand 0x1D = none ∧ decodeCommand 0x00400019 = none := by decide
/-- The opcode table numbers a command word's bits from 0, and an operation's opcode byte likewise (log 6). -/
theorem decode_table_word :
    decodeTableWord 8 0x71 = some .csExit ∧ decodeTableWord 32 0x00000019 = some (.sdcmdClk true true 0 0) ∧
      decodeTableWord 8 0x41 = some (.sdSendCmd 0 0 0 0) := by decide
/-- V7.8, V7.9. -/
theorem decode_reserved : [0x00, 0x05, 0x16, 0x25, 0x33, 0x44, 0x64, 0x75, 0xFF].all
    (fun b => match decode [b] with | .error .reservedOpcode => true | _ => false) = true := by decide
/-- A record that is too short, a tag above 3 and a flag above 1 (log 5). -/
theorem decode_malformed : [[0x02, 1, 2, 3], [0x04, 4, 0, 0, 0, 0, 0], [0x15, 2, 0, 0, 0, 0, 2], []].all
    (fun b => match decode b with | .error .malformedRecord => true | _ => false) = true := by decide

/-! ### Vectors, one operation each -/

/-- V1.1. -/
theorem test_cc_now :
    (gives .ccNow (running 0xFFFFFFF0) 0 fun t => t.res == some (.u32 0xFFFFFFF0) && t.cyccnt == 0xFFFFFFF0) = true
      := by
  decide +kernel
/-- W1. -/
theorem test_cc_elapsed :
    (gives (.ccElapsed 0xFFFFFFF0) (running 0x10) 0 fun t => t.res == some (.u32 32)) = true := by
  decide +kernel
/-- V1.3. -/
theorem test_cc_elapsed_below :
    (gives (.ccElapsed 0x1235) (running 0x1234) 0 fun t => t.res == some (.u32 0xFFFFFFFF)) = true := by
  decide +kernel
/-- V1.6. -/
theorem test_cc_enable :
    (gives .ccEnable s0 3 fun t => t.trcena && t.cyccntena && t.cyccnt == 0 && t.ctx == Ctx.idle) = true := by
  decide +kernel
/-- V1.10. -/
theorem test_dur_nanos :
    (gives (.durToTicks ⟨.nanos 1000, some 168000000⟩) s0 0 fun t => t.res == some (.okTicks 168)) = true := by
  decide +kernel
/-- V1.15. -/
theorem test_dur_secs32 :
    (gives (.durToTicks ⟨.secs32 0x3F800000, some 180000001⟩) s0 0 fun t => t.res == some (.okTicks 180000000)) =
      true := by
  decide +kernel
/-- V2.5. -/
theorem test_dly_ticks :
    (gives (.dlyTicks 0x8000000A) (running 5) 0 fun t => t.ctx.wait == some ⟨5, 0x8000000A, 0x7FFFFFFF⟩) = true :=
      by
  decide +kernel
/-- V2.7. -/
theorem test_dly_stopped : (refuses (.dlyTicks 5) s0 .counterDisabled) = true := by decide +kernel
/-- V2.10. -/
theorem test_dly_us :
    (gives (.dlyUs 500) (running 0) 0 fun t => t.ctx.wait == some ⟨0, 90000, 90000⟩) = true := by
  decide +kernel
/-- V2.14. -/
theorem test_dly_ms :
    (gives (.dlyMs 0xFFFFFFFF) (running 0) 0 fun t => t.ctx.wait == some ⟨0, 773094113100000, 0x7FFFFFFF⟩) = true :=
      by
  decide +kernel
/-- V2.15, at 180 MHz. -/
theorem test_dly_s_f32 :
    (gives (.dlySF32 0x3F000000) (running 0) 0 fun t => t.ctx.wait == some ⟨0, 90000000, 90000000⟩) = true := by
  decide +kernel
/-- V2.18. -/
theorem test_dly_s_f64 :
    (gives (.dlySF64 0x4000000000000000) (running 0) 0 fun t => t.ctx.wait == some ⟨0, 360000000, 360000000⟩) = true
      := by
  decide +kernel
/-- V2.19. -/
theorem test_dly_negative : (refuses (.dlySF64 0xBFF0000000000000) (running 0) .negativeDuration) = true := by decide +kernel
/-- V2.20. -/
theorem test_dly_duration :
    (gives (.dlyDuration ⟨.nanos 1000, some 168000000⟩) (running 0) 0 fun t => t.ctx.wait == some ⟨0, 168, 168⟩) =
      true := by
  decide +kernel
/-- V2.21. -/
theorem test_dly_no_frequency :
    (gives (.dlyDuration ⟨.nanos 5, none⟩) (running 0) 0 fun t => t.faulted == some .conversionFailure && t.refused
      == none) = true := by
  decide +kernel
/-- V3.1. -/
theorem test_sw_new_small : (refuses (.swNew 1 1 168000000) s0 .badOperand) = true := by decide +kernel
/-- V3.6. -/
theorem test_sw_new :
    (gives (.swNew 1 3 5) (running 100) 0 fun t => t.watches == [(1, ⟨3, [some 100, none, none], 0, 5, 1⟩)]) = true
      := by
  decide +kernel
/-- V3.10: the cursor stays. -/
theorem test_sw_lap :
    (gives (.swLap 1) watching 0 fun t => t.watches == [(1, { sw3 with samples := [some 0, some 10, some 60] })]) =
      true := by
  decide +kernel
/-- V3.9. -/
theorem test_sw_lap_time :
    (gives (.swLapTime 1 2) watching 0 fun t => t.res == some (.duration (some ⟨.ticks 20, some 168000000⟩))) = true
      := by
  decide +kernel
/-- W6. -/
theorem test_sw_lap_time_none :
    (gives (.swLapTime 1 3) watching 0 fun t => t.res == some (.duration none)) = true := by
  decide +kernel
/-- V3.11. -/
theorem test_sw_reset :
    (gives (.swReset 1) watching 0 fun t => t.watches == [(1, ⟨3, [some 60, some 10, some 30], 0, 168000000, 1⟩)]) =
      true := by
  decide +kernel
/-- V3.9. -/
theorem test_sw_iter_next :
    (gives (.swIterNext 1) watching 0 fun t => t.res == some (.duration (some ⟨.ticks 10, some 168000000⟩)) &&
      t.watches == [(1, { sw3 with it := 2 })]) = true := by
  decide +kernel
/-- V4.5. -/
theorem test_tc_nanos :
    (gives (.tcNanosToCycles 60 180000000 2 1 0) s0 0 fun t => t.res == some (.u32 5)) = true := by
  decide +kernel
/-- V4.6a. -/
theorem test_tc_nanos_minimum :
    (gives (.tcNanosToCycles 5 1000000000 1 3 1) s0 0 fun t => t.res == some (.u32 2)) = true := by
  decide +kernel
/-- W4. -/
theorem test_tc_refresh :
    ([(0, 41), (61, 41), (62, 42)].all fun p => gives (.tcRefreshCounter p.1 1000000000 1 1) s0 0 fun t => t.res ==
      some (.u16 p.2)) = true := by
  decide +kernel
/-- V4.12. -/
theorem test_tc_refresh_overflow :
    (refuses (.tcRefreshCounter 65556 1000000000 1 1) s0 .overflow) = true := by
  decide +kernel
/-- V4.14. -/
theorem test_tc_convert :
    (gives (.tcConvertSpec spec4 180000000 2) s0 0 fun t => t.res == some (.cycles ⟨1, 1, 1, 5, 3, 6, 1, 1386⟩)) =
      true := by
  decide +kernel
/-- V4.16. -/
theorem test_tc_convert_overflow :
    (refuses (.tcConvertSpec { spec4 with ns := { ns4 with rc := 178 } } 180000000 2) s0 .fieldOverflow) = true :=
      by
  decide +kernel
/-- P4, first step. -/
theorem test_sd_bringup :
    (gives (.sdBringup 2 cfg4) (running 0) 0 fun t => t.imask && t.csStack == [false] && t.seqPhase == .clockEnable
      && t.seqBank == some .bothBanks) = true := by
  decide +kernel
/-- V5.28, from a clocked FMC. -/
theorem test_sd_bringup_bank_b :
    (gives (.sdBringup 1 cfg4) { running 0 with fmcen := true } 7 fun t => t.sdcr1 == 0x1AD0 && t.sdcr2 == 0x1D4 &&
      t.sdtr1 == 0x0F1FF3FF && t.sdtr2 == 0x01015061 && t.seqPhase == .cmdClk) = true := by
  decide +kernel
/-- V5.1. -/
theorem test_sd_send_cmd :
    (gives (.sdSendCmd 2 3 7 0) fmcOn 3 fun t => t.sdcmr == 0xFB && t.fmcPending == some 0xFB && t.busy && !t.imask)
      = true := by
  decide +kernel
/-- V5.18. -/
theorem test_sd_send_unclocked :
    (gives (.sdSendCmd 0 2 0 0) s0 3 fun t => t.sdcmr == 0 && t.fmcPending == none && t.ctx == Ctx.idle) = true :=
      by
  decide +kernel
/-- V5.19, one poll. -/
theorem test_sd_wait_ready :
    (gives .sdWaitReady { fmcOn with busy := true, fmcPending := some 0x1A } 1 fun t => t.ctx.todo == [⟨.pollReady,
      none, none⟩]) = true := by
  decide +kernel
/-- W9. -/
theorem test_sd_mode_word :
    (gives (.sdModeWord ⟨⟨2, 0, 0, 1⟩, 3⟩) s0 0 fun t => t.res == some (.u13 0x331)) = true := by
  decide +kernel
/-- V5.22. -/
theorem test_sd_mode_word_interleaved :
    (gives (.sdModeWord ⟨⟨8, 1, 0, 1⟩, 2⟩) s0 0 fun t => t.res == some (.u13 0x32B)) = true := by
  decide +kernel
/-- V6.1. -/
theorem test_lt_set_timing :
    (gives (.ltSetTiming t61) s0 3 fun t => t.sscr == 0x00090001 && t.bpcr == 0x001D0003 && t.awcr == 0x033D01E3 &&
      t.twcr == 0x034701E7) = true := by
  decide +kernel
/-- V6.4. -/
theorem test_lt_set_timing_overflow :
    (refuses (.ltSetTiming ⟨1, 0, 4095, 1, 1, 0, 0, 0⟩) s0 .fieldOverflow) = true := by
  decide +kernel
/-- V6.7. -/
theorem test_lt_window :
    (gives (.ltWindow 1 30 829 4 483) s0 1 fun t => (t.layer 1).shadow.whpcr == 0x033D001E && (t.layer
      1).shadow.wvpcr == 0x01E30004) = true := by
  decide +kernel
/-- V6.9. -/
theorem test_lt_window_xywh :
    (gives (.ltWindowXywh 2 10 20 100 50) { s0 with bpcr := 0x001D0003 } 2 fun t => (t.layer 2).shadow.whpcr ==
      0x008B0028 && (t.layer 2).shadow.wvpcr == 0x00490018) = true := by
  decide +kernel
/-- V6.52. -/
theorem test_lt_reload : (gives (.ltReload 1) { s0 with srcr := 1 } 0 fun t => t.srcr == 3) = true := by decide +kernel
/-- V6.46, V6.47. -/
theorem test_lt_ready :
    (gives .ltReady s0 0 (fun t => t.res == some (.bool true)) && gives .ltReady { s0 with srcr := 1 } 0 (fun t =>
      t.res == some (.bool false))) = true := by
  decide +kernel
/-- V6.49, one poll. -/
theorem test_lt_wait_ready :
    (gives .ltWaitReady { s0 with srcr := 2 } 1 fun t => t.ctx.todo == [⟨.pollReload, none, none⟩]) = true := by
  decide +kernel
/-- V6.31. -/
theorem test_lt_bgcolor : (gives (.ltBgcolor 0x123456) s0 0 fun t => t.bccr == 0x00123456) = true := by decide +kernel
/-- V6.33. -/
theorem test_lt_polarity : (gives (.ltPolarity 1 0 1 0) s0 1 fun t => t.gcr == 0xA0002220) = true := by decide +kernel
/-- V6.44. -/
theorem test_lt_pixel_format :
    (gives (.ltPixelFormat 1 2) s0 0 fun t => (t.layer 1).shadow.pfcr == 2) = true := by
  decide +kernel
/-- V6.43. -/
theorem test_lt_default_color :
    (gives (.ltDefaultColor 2 0xFF000000) s0 0 fun t => (t.layer 2).shadow.dccr == 0xFF000000 && (t.layer
      1).shadow.dccr == 0) = true := by
  decide +kernel
/-- V6.42. -/
theorem test_lt_const_alpha :
    (gives (.ltConstAlpha 1 7) s0 0 fun t => (t.layer 1).shadow.cacr == 7 && (t.layer 1).active.cacr == 0xFF) = true
      := by
  decide +kernel
/-- V6.36. -/
theorem test_lt_blend : (gives (.ltBlend 1 4 5) s0 0 fun t => (t.layer 1).shadow.bfcr == 0x405) = true := by decide +kernel
/-- V6.38. -/
theorem test_lt_blend_code : (refuses (.ltBlend 1 5 5) s0 .badOperand) = true := by decide +kernel
/-- V6.39. -/
theorem test_lt_color_key :
    (gives (.ltColorKey 1 1 0xF800) s0 2 fun t => (t.layer 1).shadow.ckcr == 0x00FF0000 && (t.layer 1).shadow.cr ==
      2) = true := by
  decide +kernel
/-- V6.41. -/
theorem test_lt_color_key_wide : (refuses (.ltColorKey 1 1 0x10000) s0 .badOperand) = true := by decide +kernel
/-- V6.20. -/
theorem test_lt_line_config :
    (gives (.ltLineConfig 1 1024 4 600) s0 1 fun t => (t.layer 1).shadow.cfblr == 0x10001003 && (t.layer
      1).shadow.cfblnr == 0x258) = true := by
  decide +kernel
/-- V6.21. -/
theorem test_lt_line_config_overflow : (refuses (.ltLineConfig 1 4096 2 1) s0 .fieldOverflow) = true := by decide +kernel
/-- V6.45. -/
theorem test_lt_fb_addr :
    (gives (.ltFbAddr 1 0xD0000000) s0 0 fun t => (t.layer 1).shadow.cfbar == 0xD0000000) = true := by
  decide +kernel
/-- V6.53. -/
theorem test_lt_layer_enable :
    (gives (.ltLayerEnable 1) { s0 with layers := [{ shadow := { cr := 2 } }, {}] } 1 fun t => (t.layer 1).shadow.cr
      == 3 && (t.layer 1).active.cr == 0) = true := by
  decide +kernel
/-- V6.34. -/
theorem test_lt_dither_enable : (gives .ltDitherEnable s0 1 fun t => t.gcr == 0x00012220) = true := by decide +kernel
/-- V6.35. -/
theorem test_lt_enable :
    (gives .ltEnable { s0 with gcr := 0x00012220 } 1 fun t => t.gcr == 0x00012221) = true := by
  decide +kernel
/-- P5, second sub-operation. -/
theorem test_lt_setup :
    (gives (.ltSetup cfg5) s0 0 fun t => t.bccr == 0 && t.ctx.setupStep == some 2 && (t.ctx.todo.head?.map
      HostStep.act) == some (.read .gcr)) = true := by
  decide +kernel
/-- V6.29. -/
theorem test_lt_rgb565 :
    (gives (.ltRgb565To888 0x8410) s0 0 fun t => t.res == some (.u24 0x838183)) = true := by
  decide +kernel
/-- V7.1. -/
theorem test_cs_enter : (gives .csEnter s0 0 fun t => t.imask && t.csStack == [false]) = true := by decide +kernel
/-- V7.4. -/
theorem test_cs_exit_empty : (refuses .csExit s0 .unbalancedCriticalSection) = true := by decide +kernel
/-- V7.2. -/
theorem test_cs_exit :
    (gives .csExit { s0 with imask := true, csStack := [true, false] } 0 fun t => t.imask && t.csStack == [false]) =
      true := by
  decide +kernel
/-- V7.5. -/
theorem test_rcc_fmc_enable : (gives .rccFmcEnable s0 1 fun t => t.fmcen && t.sdcr1 == 0x2D0) = true := by decide +kernel
/-- V5.35. -/
theorem test_rcc_fmc_reset_pulse :
    (gives .rccFmcResetPulse upPending 3 fun t => t.sdcr1 == 0x2D0 && !t.busy && t.fmcPending == none && t.sdramLog
      == [] && t.seqPhase == .live && t.seqResetAfterLive && !t.fmcrst) = true := by
  decide +kernel
/-- V7.7. -/
theorem test_clk_freq : (gives .clkFreq s0 0 fun t => t.res == some (.hz 180000000)) = true := by decide +kernel
/-- V5.14. -/
theorem test_sdcmd_pall :
    (gives (.sdcmdPall true true 0 0) fmcOn 0 fun t => t.sdcmr == 0x1A && t.fmcPending == some 0x1A && t.busy) =
      true := by
  decide +kernel
/-- V5.17. -/
theorem test_sdcmd_lmr_busy :
    (gives (.sdcmdLmr true true 0 0x331) { fmcOn with busy := true, fmcPending := some 1 } 0 fun t => t.faulted ==
      some .commandCorrupted && t.fmcPending == some 1) = true := by
  decide +kernel
/-- V5.2. -/
theorem test_sdcmd_clk :
    (gives (.sdcmdClk true true 0 0) fmcOn 0 fun t => t.fmcPending == some 0x19) = true := by
  decide +kernel
/-- V5.1. -/
theorem test_sdcmd_aref :
    (gives (.sdcmdAref true true 7 0) fmcOn 0 fun t => t.fmcPending == some 0xFB) = true := by
  decide +kernel

/-! ### Vectors of the other agents, the host and the text -/

/-- V5.16: NRFS 7 is eight refreshes. -/
theorem test_fmc_step : (let t := { fmcOn with fmcPending := some 0xFB, busy := true, cyccnt := 9 }.fmcStep
    t.sdramLog == [⟨true, true, 3, some 8, 9⟩] && !t.busy && t.fmcPending == none) = true := by decide +kernel
/-- V6.48. -/
theorem test_immediate_reload : (let t := { s0 with srcr := 1, cyccnt := 9, layers := [{ shadow := { cr := 2 } }] }.ltdcReloadStep
    (t.layer 1).active.cr == 2 && t.srcr == 0 && t.ltdcLog == [.reload .immediate 9]) = true := by decide +kernel
/-- V6.50. -/
theorem test_vertical_blank : (let t := { s0 with srcr := 2, gcr := 0x2221, cyccnt := 9 }.ltdcVBlankStep
    t.srcr == 0 && t.ltdcLog == [.vblank 9, .reload .verticalBlank 9]) = true := by decide +kernel
/-- The polling vectors of V2, with D_START 0xFFFFFFF0 and D_SUB 32: after a gap the reference moves by 32, not to the count. -/
theorem test_delay_poll :
    (let poll := fun c : Word => { running c with
        ctx := { todo := [⟨.delayPoll, none, none⟩], wait := some ⟨0xFFFFFFF0, 40, 32⟩ } }.continueOp.ctx.wait
    poll 0x0F == some ⟨0xFFFFFFF0, 40, 32⟩ && poll 0x10 == some ⟨0x10, 8, 8⟩ && poll 0x20 == some ⟨0x10, 8, 8⟩ &&
      poll 0xFFFFFFF5 == some ⟨0xFFFFFFF0, 40, 32⟩) = true := by decide +kernel
/-- V7.10. -/
theorem test_read_res : (s0.readRes 0).faulted = some .resUnwritten := by decide +kernel
/-- P6, schedule S6a, its last step: the raw write finds BUSY set. -/
theorem test_interrupt_corrupts :
    steps { fmcOn with busy := true, fmcPending := some 0x12, sched := [.irq],
                       irq := some ⟨Ctx.idle, [.regWrite .sdcmr 0x12], []⟩ }
      (fun t => t.faulted == some .commandCorrupted && t.irq.isSome) = true := by decide +kernel
/-- R81, R82: four bytes, least significant first, in the window of a live bank. -/
theorem test_sdram_write :
    (match upPending.busWrite 0xC0000000 (put32 0x11223344) with
    | .next t => t.sdram == [(0xC0000000, 0x44), (0xC0000001, 0x33), (0xC0000002, 0x22), (0xC0000003, 0x11)]
    | _ => false) = true := by decide +kernel
/-- R81: the window begins at the access's third byte, and the bank is not live. -/
theorem test_dead_straddle : (match s0.busRead 0xBFFFFFFE 4, s0.busWrite 0xCFFFFFFF (put64 0) with
    | .next t, .next u => t.faulted == some .sdramNotLive && u.faulted == some .sdramNotLive
    | _, _ => false) = true := by decide +kernel
/-- R82: eight bytes at a register, and one byte of one. -/
theorem test_mixed_width : (match s0.busRead 0xA0000140 8, s0.busWrite 0xA0000141 [0] with
    | .next t, .next u => t.refused == some .mixedWidthAccess && u.refused == some .mixedWidthAccess
    | _, _ => false) = true := by decide +kernel
/-- R295: a read of LxCACR (0x40016884 + 0x14) gives the shadow copy. -/
theorem test_shadow_read : (match { s0 with layers := [{ shadow := { cacr := 7 } }] }.busRead 0x40016898 4 with
    | .next t => t.lastRead == some (.reg (.layer 1 .cacr) 7 0)
    | _ => false) = true := by decide +kernel

/-! ### The default layout, and another one (R3) -/

/-- Reset words: R41, R42, R49, R53. -/
theorem test_reset_words : [(Reg.sdcr1, 0x2D0), (.sdtr2, 0x0FFFFFFF), (.gcr, 0x2220), (.layer 1 .cacr, 0xFF),
    (.layer 2 .bfcr, 0x607)].all (fun p => Params.default.resetWord p.1 == p.2) = true := by decide +kernel
/-- A map with another reset value (D20): LxCACR at 0x80, and LTDC_GCR with LTDCEN set, of whose word bit 3 is no field. -/
theorem test_other_resets :
    (let m := { RegResets.default with gcr := 0x2229, layer := { LayerResets.default with cacr := 0x80 } }
     let s := State.resetFor { Params.default with regMap := { RegMap.default with resets := m } } 2 0
     (s.layer 2).active.cacr == 0x80 && s.gcr == 0x2221 && s.ltdcEnabled && s.regInv) = true := by decide +kernel
/-- A layer base that is not a multiple of 4 is refused (R83). -/
theorem test_unaligned_base : ({ RegMap.default with
    layerBases := [0x40016882],
    layerOffsets := ⟨2, 6, 10, 14, 18, 22, 26, 30, 42, 46, 50⟩ } : RegMap).aligned = false := by decide +kernel
/-- The fields of R36, R41, R44, R45, R49, R50, R53. -/
theorem test_masks : [(Reg.demcr, 0x01000000), (.sdcr1, 0x7FFF), (.sdrtr, 0x7FFF), (.sdsr, 0x20), (.gcr, 0xF0017771),
    (.twcr, 0x0FFF07FF), (.layer 1 .cr, 0x13), (.layer 1 .wvpcr, 0x07FF07FF), (.layer 2 .cfblr, 0x1FFF1FFF)].all
    (fun p => Params.default.mask p.1 == p.2) = true := by decide +kernel
/-- A map in which LTDCEN and DEN change places: LT_ENABLE sets bit 16, and the vertical blank then runs. -/
theorem test_other_layout :
    (let g := { GcrFields.default with ltdcen := ⟨16, 1⟩, den := ⟨0, 1⟩ }
     let p := { Params.default with regMap := { RegMap.default with fields := { FieldMap.default with gcr := g } } }
     p.layoutOk && gives .ltEnable { s0 with params := p } 1 fun t => t.gcr == 0x00012220 &&
       t.ltdcVBlankStep.ltdcLog == [.vblank 0]) = true := by decide +kernel
/-- R109: names and operands in order; the floats of the example are exact. -/
theorem test_text : Instr.text (.ltReload 0) = "LT_RELOAD 0" ∧ Instr.text (.dlyTicks 32) = "DLY_TICKS 32" ∧
    boundText "a" .ccNow = "%a = CC_NOW" := by decide +kernel
/-- R110. -/
theorem test_pseudo : ApiCall.reloadImmediateAndBlock.expand = [.ltReload 0, .ltWaitReady] := by decide

/-! ### Witnesses: for every statement with hypotheses, states and operands that meet them, clause by clause -/

def runs (k : Nat) (s : State) (f : State → Bool) : Bool :=
  match runFor k s with
  | .next t => f t
  | .fault _ => false
  | .refused _ => false

/-- The state after the first host step of `i` and `k` more. -/
def stateAfter (i : Instr) (s : State) (k : Nat) : State :=
  match exec i s with
  | .next t => t.continueFor k
  | .fault _ => s
  | .refused _ => s

def hostNext (a : HostAct) : State := { s0 with sched := [.host], program := [a], names := [(7, .u32 5)] }
def pollTodo (a : Act) : Ctx := { todo := [⟨a, none, none⟩] }
def delaying (start : Word) (rem : DWord) (sub c : Word) : State :=
  { running c with ctx := { todo := [⟨.delayPoll, none, none⟩], wait := some ⟨start, rem, sub⟩ } }

theorem witness_EncodeThenDecode : encodable (.ltSetup cfg5) = true := by decide
theorem witness_DecodeThenEncode : decode [0x71, 9] = .ok (.csExit, [9]) := by rfl
theorem witness_CommandWordsRoundTrip : commandOf (.sdcmdLmr true true 15 0x1FFF) = some 0x003FFFFC ∧
    decodeCommand 0x003FFFFC = some (.sdcmdLmr true true 15 0x1FFF) ∧ decodeCommand 0x0040001C = none := by decide
theorem witness_ReservedOpcodesRefused :
    ([0, 5, 0xF, 0x16, 0x1F, 0x25, 0x2F, 0x33, 0x3F, 0x44, 0x4F, 0x64, 0x6F, 0x75, 0xFF] : List Byte).all
      (fun b => (opcodeOf b).isNone) = true ∧
    ([1, 4, 0x10, 0x15, 0x20, 0x24, 0x30, 0x32, 0x40, 0x43, 0x50, 0x63, 0x70, 0x74] : List Byte).all
      (fun b => (opcodeOf b).isSome) = true ∧
    (hostNext (.op [.bytes [5]])).hostEnabled = true ∧ (hostNext (.op [.bytes [5]])).ctx.todo = [] := by decide
theorem witness_StepRunsDecoded : let s := hostNext (.op [.bytes [2], .name 7])
    s.params.regMap.aligned = true ∧ s.hostEnabled = true ∧ s.ctx.todo = [] ∧ s.sched = [.host] ∧
      s.partBytes [.bytes [2], .name 7] = some [2, 5, 0, 0, 0] ∧ decodes [2, 5, 0, 0, 0] (.ccElapsed 5) = true ∧
      decodeCommand 0x1A = some (.sdcmdPall true true 0 0) := by decide +kernel
theorem witness_StepIsOneAgentsStep :
    ({ s0 with params := { s0.params with regMap := { s0.params.regMap with gcr := 0x40016819 } } } : State).params.regMap.aligned = false ∧
    s0.params.regMap.aligned = true ∧
    (let s := { stateAfter .ccEnable s0 0 with sched := [.host] }; s.hostEnabled = true ∧ s.ctx.todo ≠ []) := by
  decide +kernel
theorem witness_IllTypedOperandRefused : Instr.wf s0.numLayers s0.params.fieldValues (.ltLayerEnable 3) = false := by
  decide +kernel
theorem witness_StopsAndMarks : s0.stopped = false ∧ (stateAfter .csExit s0 0).stopped = true ∧
    (let s := { s0 with ctx := pollTodo .leave }; s.stopped = false ∧ s.continueOp.stopped = true) ∧
    (let s := { s0 with faulted := some .resUnwritten, refused := some .overflow, sched := [.tick] }
     s.stopped = true ∧ steps s (fun _ => true) = true) := by decide +kernel
/-- R389: a run with nothing to do ends at once. -/
theorem witness_EndsIn : EndsIn s0 0 s0 :=
  ⟨rfl, ⟨rfl, rfl, rfl, rfl, rfl⟩, fun _ h => absurd h (Nat.not_lt_zero _)⟩
theorem witness_ResetMeetsInvariants :
    [IrqItem.op .ccNow, .regRead .dwtCyccnt, .regWrite .demcr 0].all IrqItem.keepsCount = true := by decide +kernel
theorem witness_ParametersConstantLogsGrow : let s := { s0 with sched := [.tick], trcena := true, cyccntena := true }
    steps s (fun _ => true) = true ∧ s.mover ≠ .fmc ∧ s.mover ≠ .ltdcReload ∧ s.mover ≠ .ltdcVBlank := by decide +kernel
theorem witness_OperationsKeepMemory : gives .ccEnable { s0 with sdram := [(0xC0000000, 1)] } 0 (fun _ => true) = true ∧
    s0.countInv = true ∧ (stateAfter .ccEnable s0 0).countInv = true := by decide +kernel
theorem witness_StepKeepsInvariants : let s := { hostNext (.command 0x1A) with fmcen := true, watches := [(1, sw3)] }
    s.regInv = true ∧ s.dataInv = true ∧ s.ctxInv = true ∧ steps s (fun t => t.busy) = true := by decide +kernel
theorem witness_PhasesInOrder :
    (let s := { stateAfter (.sdBringup 1 cfg4) (running 0) 3 with sched := [.host] }
     s.seqInv = true ∧ steps s (fun t => bringingUp t.ctx.todo && t.seqPhase == .clockEnable) = true ∧
       bringingUp s.ctx.todo = true ∧ s.irq = none) ∧
    (let s := { upPending with sched := [.fmc] }
     s.seqInv = true ∧ s.seqPhase = .live ∧ steps s (fun _ => true) = true) ∧
    (let s := { s0 with seqPhase := .live, seqBank := some .bankA, imask := true, csStack := [false], ctx := pollTodo .leave,
                        params := { s0.params with irqProgram := [.op .clkFreq] }, sched := [.irq] }
     s.seqInv = true ∧ leavesLater s.ctx.todo = true ∧ s.irq = none ∧ bringingUp s.ctx.todo = false ∧
       steps s (fun t => leavesLater t.ctx.todo && t.imask && t.irq == none) = true) := by decide +kernel
theorem witness_CounterReadings : (running 0xFFFFFFFF).trcena = true ∧ (running 0xFFFFFFFF).cyccntena = true ∧
    s0.trcena = false := by decide
theorem witness_CcEnableResult : s0.params.layoutOk = true := by decide +kernel
theorem witness_WraparoundLaw : let s := { running 0xFFFFFFFF with sched := [.tick, .tick] }
    s.countInv = true ∧ runs 2 s (fun t => t.cyccnt == 1) = true ∧ ticksIn 2 s = 2 := by decide +kernel
theorem witness_DurToTicksResult : (1 : Word) ≠ 0 ∧ (none : Option Word) ≠ some 0 ∧
    binary32.secsToTicks 0x3F000000 168000000 = .ok 84000000 ∧ binary64.secsToTicks 0x3FF0000000000000 1 = .ok 1 ∧
    binary32.secsToTicks 0x7FC00000 1 = .error .badOperand ∧
    binary64.secsToTicks 0xBFF0000000000000 1 = .error .negativeDuration ∧
    (2 ^ 64 - 1) * 1000000000 / 10 ^ 9 < 2 ^ 64 ∧ ¬ (2 ^ 64 - 1) * 2000000000 / 10 ^ 9 < 2 ^ 64 := by decide +kernel
theorem witness_RoundsToNearestEven : IsRounded 24 0xFFFFFF 0xFFFFFF ∧ IsRounded 24 0x1000001 0x1000000 ∧
    IsRounded 24 0x1000003 0x1000004 ∧ IsRounded 24 0x1FFFFFF 0x2000000 ∧ IsRounded 24 0 0 ∧
    IsRounded 24 ((2 ^ 23 + (2 ^ 23 - 1)) * 2 ^ 253 * 2 ^ 24) ((2 ^ 24 - 1) * 2 ^ 277) ∧
    IsRounded 53 (2 ^ 53 - 1) (2 ^ 53 - 1) ∧ IsRounded 53 (2 ^ 53 + 1) (2 ^ 53) ∧ IsRounded 53 (2 ^ 53 + 3) (2 ^ 53 + 4) := by
  refine ⟨?_, ?_, ?_, ?_, ?_, ?_, ?_, ?_, ?_⟩ <;> dsimp only [IsRounded] <;> decide +kernel
/-- R149 at the edges: minus zero, the largest negative number that is not NaN, and NaN. -/
theorem test_float_edges : binary32.secsToTicks 0x80000000 5 = .ok 0 ∧
    binary32.secsToTicks 0x80000001 5 = .error .negativeDuration ∧
    binary32.secsToTicks 0xFF800000 5 = .error .negativeDuration ∧
    binary32.secsToTicks 0xFF800001 5 = .error .badOperand ∧ binary32.secsToTicks 0x7F800000 5 = .error .badOperand ∧
    binary32.secsToTicks 0x5F800000 1 = .error .overflow ∧
    binary32.secsToTicks 0x5F7FFFFF 1 = .ok 0xFFFFFF0000000000 := by decide +kernel
theorem witness_DelaysBegin : s0.counterEnabled = false ∧ (running 0).counterEnabled = true ∧
    500 * (running 0).params.clkHz.toNat / 10 ^ 6 = (90000 : DWord).toNat ∧
    1 * (running 0).params.clkHz.toNat / 10 ^ 3 = (180000 : DWord).toNat ∧
    binary32.secsToTicks 0x3F000000 (running 0).params.clkHz.toNat = .ok 90000000 ∧
    binary64.secsToTicks 0x4000000000000000 (running 0).params.clkHz.toNat = .ok 360000000 ∧
    1000 * (168000000 : Word).toNat / 10 ^ 9 = (168 : DWord).toNat ∧ (none : Option Word) ≠ some 0 ∧
    binary32.secsToTicks 0x3F000000 2 = .ok 1 ∧ binary64.secsToTicks 0x3FF0000000000000 1 = .ok 1 ∧
    binary32.secsToTicks 0x60000000 (running 0).params.clkHz.toNat = .error .overflow ∧
    binary64.secsToTicks 0x7FF0000000000000 (running 0).params.clkHz.toNat = .error .badOperand ∧
    binary32.secsToTicks 0xBF800000 1 = .error .negativeDuration ∧
    binary64.secsToTicks 0x43F0000000000000 1 = .error .overflow ∧
    2 ^ 64 ≤ (2 ^ 64 - 1) * 2000000000 / 10 ^ 9 := by decide +kernel
theorem witness_DelayPollResult : ∀ s ∈ [delaying 0xFFFFFFF0 40 32 0xF, delaying 0xFFFFFFF0 40 32 0x10, delaying 0 8 8 8],
    s.ctx.todo = [⟨.delayPoll, none, none⟩] ∧ s.ctx.wait.isSome ∧ s.ctx.setupStep = none := by decide +kernel
theorem witness_DelayReturns : (running 0).counterEnabled = true ∧ (1 : DWord) ≠ 0 ∧ (1 : DWord).toNat < 2 ^ 31 ∧
    (0x7FFFFFFF : DWord).toNat < 2 ^ 31 ∧ (1 : DWord).toNat ≤ 1 ∧ (0x7FFFFFFF : DWord).toNat ≤ 2 ^ 32 - 1 ∧
    2 ^ 32 - 1 < 2 ^ 32 ∧ 0x7FFFFFFE < (0x7FFFFFFF : DWord).toNat := by decide +kernel
theorem witness_DelayLowerBound : let s := { delaying 0 1 1 0 with sched := [.tick, .host] }
    let q := { s with params := { s.params with irqProgram := [.op .clkFreq] }, sched := [.irq, .tick, .irq, .host] }
    let r := { s with irq := some ⟨Ctx.idle, [], []⟩, sched := [.tick, .irq] }
    (∀ x ∈ [s, q, r], x.countInv = true ∧ x.ctx.wait = some ⟨x.cyccnt, 1, BitVec.ofNat 32 (min 1 2147483647)⟩ ∧
      x.ctx.todo = [⟨.delayPoll, none, none⟩]) ∧
    s.irq = none ∧ runs 2 s (fun u => u.hostCtx.todo == []) = true ∧
    q.irq = none ∧ runs 3 q (fun u => u.hostCtx.todo == s.ctx.todo && u.irq == none) = true ∧
    runs 4 q (fun u => u.hostCtx.todo == []) = true ∧ runs 2 r (fun u => u.irq == none) = true := by decide +kernel
theorem witness_StopWatchRecords : s0.watch 1 = none ∧ 2 ≤ (2 : Word).toNat ∧ (1 : Word).toNat < 2 ∧
    watching.watch 1 = some sw3 ∧ (watching.watch 1).isSome = true ∧ (2 : Word) ≠ 1 := by decide +kernel
theorem witness_StopWatchLapTimes : watching.watch 1 = some sw3 ∧ sw3.cursor < (3 : Word).toNat ∧ (2 : Word).toNat ≤ sw3.cursor ∧
    sw3.samples[2]? = some (some 30) ∧ sw3.samples[1]? = some (some 10) ∧ sw3.it ≤ sw3.cursor ∧
    ({ watching with watches := [(1, { sw3 with it := 3 })] } : State).watch 1 = some { sw3 with it := 3 } ∧
    sw3.cursor < 3 := by decide +kernel
theorem witness_SaturationLaw : 2 ≤ (2 : Word).toNat ∧ [(5 : Word)].getLast? = some 5 ∧ (2 : Word).toNat - 1 ≤ 1 ∧
    0 + 1 < (3 : Word).toNat - 1 := by decide
theorem witness_CalculatorResults : (1 : Word) ≠ 0 ∧ clampCycles 4 3 1 = 1 ∧ clampCycles 5 3 1 = 2 ∧ refreshOfRaw 61 = 41 ∧
    refreshOfRaw 62 = 42 := by decide
theorem witness_ConvertSpecResult : timingSpecOk s0.params.fieldValues spec4 = true ∧
    nanosToCycles 177 180000000 2 1 0 = .ok 15 ∧ 15 < 2 ^ s0.params.timingFieldBits ∧
    nanosToCycles 178 180000000 2 1 0 = .ok 16 ∧ refreshCounter 64000000 180000000 2 (2 ^ 12) = .ok 1386 ∧
    gives (.tcConvertSpec spec4 180000000 2) s0 0 (fun t => t.res == some (.cycles ⟨1, 1, 1, 5, 3, 6, 1, 1386⟩)) = true ∧
    s0.res = none ∧ (1386 : BitVec 16).toNat < 2 ^ s0.fields.sdrtr.count.width ∧
    nanosToCycles 18 180000000 0 1 0 = .error .badOperand ∧ 2 ^ s0.params.timingFieldBits ≤ 16 ∧
    refreshCounter 373000000 180000000 2 (2 ^ 12) = .ok 8175 ∧ refreshCounter 374000000 180000000 2 (2 ^ 12) = .ok 8197 ∧
    refreshCounter 4294967295 180000000 2 (2 ^ 11) = .error .overflow := by decide +kernel
/-- R203: RP does not fit and comes before the refresh count, which overflows; then the refresh count alone, in both ways. -/
theorem test_convert_order : refuses (.tcConvertSpec { spec4 with ns := { ns4 with rp := 178, refreshPeriod := 4294967295 } } 180000000 2) s0
    .fieldOverflow = true ∧
    refuses (.tcConvertSpec { spec4 with ns := { ns4 with refreshPeriod := 4294967295 }, rowBits := 11 } 180000000 2) s0 .overflow = true ∧
    refuses (.tcConvertSpec { spec4 with ns := { ns4 with refreshPeriod := 374000000 } } 180000000 2) s0 .fieldOverflow = true := by
  decide +kernel
theorem witness_CalculatorLaws : nanosToCycles 0 1 1 1 5 = .ok 5 ∧ nanosToCycles 60 180000000 2 1 0 = .ok 5 ∧
    nanosToCycles 178 180000000 2 1 0 = .ok 16 ∧ refreshCounter 61 1000000000 1 1 = .ok 41 ∧
    refreshCounter 62 1000000000 1 1 = .ok 42 := by decide +kernel
theorem witness_ModeWordResult : modeConfigOk ⟨8, 1, 0, 1⟩ = true ∧ modeConfigOk ⟨16, 1, 0, 1⟩ = false ∧ casOk 3 = true ∧
    casOk 1 = true ∧ casOk 0 = false ∧ casOk 4 = false := by decide
theorem witness_SendCmdResult : bankOf 1 = some .bankB ∧ (4 : Byte) ∈ ([1, 2, 3, 4] : List Byte) ∧ (15 : Byte).toNat < 16 ∧
    (8191 : BitVec 16).toNat < 8192 ∧ s0.busyRead = false ∧ fmcOn.fmcWritable = true ∧ s0.fmcWritable = false ∧
    (2 : Byte).toNat < 3 ∧ (7 : Byte) ∈ ([0, 5, 6, 7] : List Byte) ∧ fmcOn.fields = .default ∧
    upPending.busyRead = true ∧ upPending.fmcPending.isSome = true ∧ upPending.params.fmcResponds = true := by decide +kernel
theorem witness_WaitsPoll : s0.busyRead = false ∧ upPending.busyRead = true ∧ s0.reloadReady = true ∧
    ({ s0 with srcr := 2 } : State).reloadReady = false := by decide
theorem witness_CommandWordsWritten : commandOf (.sdcmdLmr false true 15 0x1FFF) = some 0x003FFFF4 ∧ s0.fmcWritable = false ∧
    upPending.fmcWritable = true ∧ upPending.busy = true ∧ fmcOn.fmcWritable = true ∧ fmcOn.busy = false ∧
    s0.fields = .default := by decide +kernel
theorem witness_FmcStepAndGating : upPending.fmcPending = some 0x1A ∧ upPending.fmcen = true ∧ upPending.fmcrst = false ∧
    upPending.params.fmcResponds = true ∧ isFmcReg .sdsr = true ∧ ({ fmcOn with fmcrst := true } : State).fmcrst = true ∧
    s0.fmcen = false ∧ s0.fmcPending = none := by decide +kernel
theorem witness_BringupRefusals : Instr.wf s0.numLayers s0.params.fieldValues (.sdBringup 2 cfg4) = true ∧
    upPending.seqPhase ≠ .idle ∧ s0.seqPhase = .idle ∧
    bringupWords s0.params { cfg4 with geometry := { cfg4.geometry with colBits := 12 } } = none ∧
    (bringupWords s0.params cfg4).isSome = true ∧ s0.counterEnabled = false ∧ (running 0).counterEnabled = true ∧
    bringupCycles s0.params { cfg4 with timing := { ns4 with rc := 178 } } = .error .fieldOverflow := by decide +kernel
theorem witness_BringupReachesLive : ∀ s ∈ [running 0, { running 0 with fmcen := true }],
    s.params.layoutOk = true ∧ Instr.wf s.numLayers s.params.fieldValues (.sdBringup 2 cfg4) = true ∧ bankOf 0 = some .bankA ∧
    bankOf 1 = some .bankB ∧ bankOf 2 = some .bothBanks ∧ s.seqPhase = .idle ∧
    bringupWords s.params cfg4 = some (0x19D4, 0x331) ∧ s.counterEnabled = true ∧
    bringupCycles s.params cfg4 = .ok ⟨1, 1, 1, 5, 3, 6, 1, 1386⟩ ∧ s.params.fmcResponds = true ∧ s.fmcrst = false ∧
    s.busy = false ∧ s.fmcPending = none ∧ s.regInv = true := by decide +kernel
/-- A bring-up at 4 kHz, whose delay is 2 ticks, at the write of its first command. -/
def clkNext : State :=
  stateAfter (.sdBringup 2 cfg4) { running 0 with params := { s0.params with clkHz := 4000 }, fmcen := true } 6
theorem witness_PowerUpLaw :
    let s := { clkNext with sched := [.host, .fmc, .host, .tick, .tick, .host, .host, .host] }
    let steps := bringupSteps s.params .bothBanks 0x19D4 (sdtrWord .default ⟨0, 0, 0, 0, 0, 0, 0, 41⟩) 0x331 41
    let pall := s.ctx.todo.drop 5
    s.ctx.todo.isSuffixOf steps = true ∧ s.ctx.todo.head? = some ⟨.write .sdcmr 0x19, none, none⟩ ∧
    s.fields.sdcmr.mode.get 0x19 = 1 ∧ (pall.head?.map HostStep.act) = some (.write .sdcmr 0x1A) ∧
    s.fields.sdcmr.mode.get 0x1A = 2 ∧ s.imask = true ∧ s.irq = none ∧ runs 8 s (fun u => u.ctx.todo == pall) = true ∧
    500 * s.params.clkHz.toNat / 10 ^ 6 = 2 ∧ ticksIn 8 s = 2 := by decide +kernel
theorem witness_ControlWordFields : sdcrWord .default {} cfg4.geometry = some 0x19D4 ∧ boolOk cfg4.geometry.writeProtect = true ∧
    boolOk cfg4.geometry.readBurst = true ∧ Params.default.layoutOk = true ∧ (sdcrWord .default {} ⟨11, 13, 32, 4, 3, 1, 3, 1, 2⟩).isSome ∧
    (8191 : BitVec 16).toNat < 2 ^ 13 ∧ (0xFFFFFF : Word).toNat < 2 ^ 24 ∧ 4095 < 2 ^ Params.default.hFieldBits ∧
    2047 < 2 ^ Params.default.vFieldBits := by decide +kernel
theorem witness_HostAccessStops :
    (∀ p ∈ [(0xC0000000, 4, 0xC0000003), (0xBFFFFFFE, 4, 0xC0000000), (0xDFFFFFFF, 9, 0xDFFFFFFF)],
      s0.touchesReg p.1 p.2.1 = false ∧ p.1 ≤ p.2.2 ∧ p.2.2 < p.1 + p.2.1 ∧
      (s0.inBank1 p.2.2 = true ∨ s0.inBank2 p.2.2 = true) ∧ s0.byteLive p.2.2 = false) ∧
    (∀ p ∈ [(0xA000013D, 4), (0xA0000140, 3), (0xA0000140, 8), (0xA000015B, 1), (0xE0001004, 8)],
      s0.touchesReg p.1 p.2 = true ∧ (p.2 ≠ 4 ∨ s0.regAt p.1 = none)) ∧
    s0.regAt 0xA0000140 = some .sdcr1 ∧ s0.regAt 0x40016934 = some (.layer 2 .cfblnr) ∧ s0.res = none ∧
    ({ s0 with res := some (.bool true) } : State).res = some (.bool true) ∧
    (∀ p ∈ [(0xBFFFFFFF, false), (0xC0000000, true), (0xCFFFFFFF, true), (0xD0000000, false)], upPending.byteLive p.1 = p.2) ∧
    ({ upPending with seqResetAfterLive := true } : State).byteLive 0xC0000000 = false := by decide +kernel
theorem witness_WindowReadsBack : ∀ p ∈ [(0xC0000000, 8), (0xC0000000 + Config.sdramWindowBytes - 1, 1)],
    upPending.touchesReg p.1 p.2 = false ∧ allBytes upPending.byteLive p.1 p.2 = true ∧
    allBytes (fun x => !upPending.writeProtected x) p.1 p.2 = true ∧
    ({ upPending with sdcr1 := 0x2D0 } : State).writeProtected p.1 = true := by decide +kernel
theorem witness_SetTimingResult : s0.params.layoutOk = true ∧ 4095 < 2 ^ s0.params.hFieldBits ∧ 2047 < 2 ^ s0.params.vFieldBits ∧
    2 ^ s0.params.hFieldBits ≤ 4096 ∧ 2 ^ s0.params.vFieldBits ≤ 2048 := by decide +kernel
theorem witness_WindowResult : s0.params.layoutOk = true ∧ (2 : Byte).toNat ≤ s0.layers.length ∧
    (4095 : BitVec 16).toNat < 2 ^ s0.params.hFieldBits ∧ 2 ^ s0.params.vFieldBits ≤ (2048 : BitVec 16).toNat ∧
    (4 : BitVec 16) < 5 ∧ (5 : BitVec 16) ≤ 5 := by decide +kernel
theorem witness_WindowXywhResult : 29 + 10 + 4056 < 2 ^ s0.params.hFieldBits ∧ 2 ^ s0.params.hFieldBits ≤ 29 + 10 + 4057 ∧
    3 + 0 + 2044 < 2 ^ s0.params.vFieldBits ∧ 2 ^ s0.params.vFieldBits ≤ 3 + 0 + 2045 ∧ s0.params.layoutOk = true := by decide +kernel
theorem witness_SingleWriteResults : (0xFFFFFF : Word).toNat < 2 ^ 24 ∧ 2 ^ 24 ≤ (0x1000000 : Word).toNat ∧
    1 ≤ (2 : Byte).toNat ∧ (2 : Byte).toNat ≤ s0.layers.length ∧ (7 : Byte).toNat < 8 ∧ (6 : Byte) ∈ ([4, 6] : List Byte) ∧
    (5 : Byte) ∉ ([4, 6] : List Byte) := by decide
theorem witness_LayerConfigResults : (1 : Byte).toNat ≤ s0.layers.length ∧ (0xFFFF : Word).toNat < 2 ^ 16 ∧
    2 ^ 16 ≤ (0x10000 : Word).toNat ∧ 2032 * 4 + s0.params.cfbllBias < 2 ^ 13 ∧ (2032 * 4 + 63) / 64 * 64 < 2 ^ 13 ∧
    2 ^ 13 ≤ (2033 * 4 + 63) / 64 * 64 ∧ (2047 : BitVec 16).toNat < 2 ^ 11 ∧ 2 ^ 11 ≤ (2048 : BitVec 16).toNat ∧ 4 < (5 : Byte).toNat := by
  decide +kernel
theorem witness_Rgb565Result : s0.params.rgb565Expand = .normalize := by decide
theorem witness_LtdcStepResults : s0.params.ltdcResponds = true ∧ ({ s0 with srcr := 1 } : State).imr = true ∧
    ({ s0 with srcr := 2 } : State).vbr = true ∧ s0.imr = false ∧ s0.vbr = false ∧ s0.ltdcEnabled = false ∧
    ({ s0 with gcr := 0x2221 } : State).ltdcEnabled = true ∧ s0.params.layoutOk = true ∧
    ({ s0 with params := { s0.params with ltdcResponds := false } } : State).params.ltdcResponds = false := by
  decide +kernel
theorem witness_ActiveChangesOnlyByReload :
    let s := { hostNext (.op [.bytes [0x5A, 1, 7]]) with srcr := 1 }
    steps s (fun t => (t.layer 1).shadow.cacr == 7) = true ∧ s.mover ≠ .ltdcReload ∧ s.mover ≠ .ltdcVBlank ∧
    steps { s with sched := [.ltdcReload] } (fun _ => true) = true := by decide +kernel
theorem witness_WaitsThatHang : let ms := [Mover.host, .fmc, .ltdcReload, .ltdcVBlank]
    (let s := { upPending with params := { s0.params with fmcResponds := false }, ctx := pollTodo .pollReady, sched := ms }
     s.params.irqProgram = [] ∧ s.irq = none ∧ s.busyRead = true ∧ runs 4 s (fun _ => true) = true) ∧
    (let s := { s0 with params := { s0.params with ltdcResponds := false }, ctx := pollTodo .pollReload, srcr := 1, sched := ms }
     s.reloadReady = false ∧ runs 4 s (fun _ => true) = true) ∧
    (let s := { s0 with ctx := pollTodo .pollReload, srcr := 3, sched := ms }
     s.params.layoutOk = true ∧ s.vbr = true ∧ s.ltdcEnabled = false ∧ runs 4 s (fun _ => true) = true) := by decide +kernel
theorem witness_SetupRefusals : s0.layers.length < [layer5, layer5, layer5].length ∧ distinctLayers [layer5, layer5] = false ∧
    blendOk 5 5 = false ∧ 2 ^ 16 ≤ (0x10000 : Word).toNat ∧
    (∀ l ∈ [{ layer5 with w := 4067 }, { layer5 with w := 2033, pf := 0 }, { layer5 with w := 2048, pf := 0 },
        { layer5 with h := 2048 }, { layer5 with h := 2045 }],
      setupRefusal 2 s0.params { cfg5 with layers := [l] } = some .fieldOverflow) ∧
    setupRefusal 2 s0.params { cfg5 with layers := [{ layer5 with w := 2032, h := 2044, pf := 0 }] } = none ∧
    setupRefusal 2 s0.params { cfg5 with timing := { t61 with hActive := 4057 } } = some .fieldOverflow ∧
    setupRefusal 2 s0.params { cfg5 with timing := { t61 with vActive := 2041 } } = some .fieldOverflow ∧
    2 ^ s0.params.hFieldBits ≤ 10 - 1 + 20 + (4057 : BitVec 16).toNat + 10 ∧
    (let c := { cfg5 with layers := [{ layer5 with w := 2032, h := 2044, pf := 0 }] }
     let n := s0.layers.length
     let m := s0.fields.layer
     let hbp := c.timing.hSync.toNat - 1 + c.timing.hBackPorch.toNat
     let vbp := c.timing.vSync.toNat - 1 + c.timing.vBackPorch.toNat
     c.bg.toNat < 2 ^ 24 ∧ c.hs.toNat < 2 ∧ c.vs.toNat < 2 ∧ c.de.toNat < 2 ∧ c.pc.toNat < 2 ∧ c.layers ≠ [] ∧
     c.layers.length ≤ n ∧ c.layers.Pairwise (fun a b => a.layer ≠ b.layer) ∧ c.timing.hSync ≠ 0 ∧ c.timing.vSync ≠ 0 ∧
     hbp + c.timing.hActive.toNat + c.timing.hFrontPorch.toNat < 2 ^ s0.params.hFieldBits ∧
     vbp + c.timing.vActive.toNat + c.timing.vFrontPorch.toNat < 2 ^ s0.params.vFieldBits ∧
     ∀ l ∈ c.layers, let len := l.w.toNat * bytesPerPixel l.pf
       1 ≤ l.layer.toNat ∧ l.layer.toNat ≤ n ∧ l.pf.toNat < 8 ∧ l.bf1.toNat ∈ [4, 6] ∧ l.bf2.toNat ∈ [5, 7] ∧
       l.w ≠ 0 ∧ l.h ≠ 0 ∧ l.colorKey = some ⟨1, 0xF800⟩ ∧ (0xF800 : Word).toNat < 2 ^ 16 ∧
       hbp + l.x.toNat + l.w.toNat < 2 ^ s0.params.hFieldBits ∧ vbp + l.y.toNat + l.h.toNat < 2 ^ s0.params.vFieldBits ∧
       len + s0.params.cfbllBias < 2 ^ m.cfbll.width ∧ (len + 63) / 64 * 64 < 2 ^ m.cfbp.width ∧
       l.h.toNat < 2 ^ m.cfblnbr.width) := by decide +kernel
theorem witness_SetupEndState : s0.params.layoutOk = true ∧ s0.regInv = true ∧ s0.params.ltdcResponds = true ∧ s0.srcr = 0 ∧
    setupRefusal s0.layers.length s0.params cfg5 = none ∧
    ∀ l ∈ cfg5.layers, s0.fields.layer.len.isSet (s0.layer l.layer.toNat).shadow.cr = false := by decide +kernel
theorem witness_CriticalSectionResults : s0.csStack = [] ∧ (stateAfter .csEnter s0 0).csStack = [false] := by decide +kernel
theorem witness_InterruptActivations :
    let p := { s0.params with irqProgram := [.op .csEnter] }
    let s := { s0 with params := p }
    let q := { s with irq := some ⟨Ctx.idle, [.op .clkFreq], []⟩ }
    let q2 := { s with irq := some ⟨Ctx.idle, [.op .csEnter], []⟩ }
    (s.stopped = false ∧ s.irq = none ∧ s.imask = false ∧ s.params.irqProgram ≠ []) ∧
    ({ s with imask := true } : State).imask = true ∧
    (q.irq ≠ none ∧ gives .clkFreq { s with irq := some ⟨Ctx.idle, [], []⟩ } 0
      (fun t => !t.stopped && t.ctx.todo == [] && t.csStack == []) = true) ∧
    (q2.ctx.todo = [] ∧ gives .csEnter { s with irq := some ⟨Ctx.idle, [], []⟩ } 0
      (fun t => !t.stopped && t.ctx.todo == [] && t.csStack != []) = true) ∧
    (∀ a ∈ [(⟨Ctx.idle, [], []⟩ : Activation), ⟨Ctx.idle, [], [true]⟩, ⟨Ctx.idle, [.op .csEnter], []⟩],
      let r := { stateAfter .rccFmcEnable s 0 with irq := some a }
      r.stopped = false ∧ r.ctx.todo ≠ [] ∧ r.continueOp.stopped = false ∧ r.continueOp.ctx.todo = [] ∧
        r.continueOp.csStack = []) ∧
    gives .clkFreq { s with irq := some ⟨Ctx.idle, [.op .csEnter], []⟩ } 0 (fun t => !t.stopped && t.ctx.todo == []) = true ∧
    gives .ccEnable { s with irq := some ⟨Ctx.idle, [], []⟩ } 0 (fun t => !t.stopped && t.ctx.todo != []) = true ∧
    s.regPresent .gcr = true ∧ s.regPresent (.layer 2 .cr) = true ∧ upPending.regPresent .sdcmr = true ∧
    (match upPending.regWrite .sdcmr 5 with | .error f => f == .commandCorrupted | .ok _ => false) = true := by
  decide +kernel
theorem witness_MailboxHazard : upPending.fmcWritable = true ∧ upPending.busy = true ∧
    gives (.sdSendCmd 2 4 15 8191) fmcOn 0 (fun t => !t.stopped) = true ∧ fmcOn.irq = none := by decide +kernel

end Sys2Proof.Tests
end

section
/-! PROOFS, family 00_scope. What one step is: the refusal of an unaligned register map, the turn that the schedule takes, and
the two kinds of host step. The rules of the host step hold for every meaning `ex` of the operations, as `hostStepWith` does. -/

namespace Sys2Proof.Machine

/-! ### The turn (R9, R83) -/

theorem step_of_unaligned {s : State} (h : s.params.regMap.aligned = false) : step s = .next (s.refuse .badRegMap) := by
  simp [step, stepWith, h]

theorem takeMover_of_sched {s : State} {m : Mover} {ms : List Mover} (h : s.sched = m :: ms) :
    s.takeMover = (m, { s with sched := ms }) := by
  simp only [State.takeMover, h]

/-- The step of an aligned machine whose schedule begins with `m` is the step of the agent `m`. -/
theorem step_of_sched {s : State} {m : Mover} {ms : List Mover} (ha : s.params.regMap.aligned = true)
    (hs : s.sched = m :: ms) : step s = agentStepWith exec m { s with sched := ms } := by
  simp only [step, stepWith, ha, if_true, takeMover_of_sched hs]

/-! ### The host step (R10, R388) -/

section
variable {ex : Instr → State → Answer} {s : State}

/-- In the middle of an operation the host goes on with it. -/
theorem hostStepWith_of_todo (he : s.hostEnabled = true) (ht : s.ctx.todo ≠ []) :
    hostStepWith ex s = .next s.continueOp := by
  obtain ⟨h, hs, hcons⟩ := List.exists_cons_of_ne_nil ht
  simp [hostStepWith, he, hcons]

/-- Between two operations the host begins its next interaction. -/
theorem hostStepWith_of_program {a : HostAct} {rest : List HostAct} (he : s.hostEnabled = true) (ht : s.ctx.todo = [])
    (hp : s.program = a :: rest) : hostStepWith ex s = hostActWith ex a { s with program := rest } := by
  simp [hostStepWith, he, ht, hp]

/-- The replacement of names reads the host's bindings and nothing else of the state. -/
theorem partBytes_congr (s t : State) (h : t.names = s.names) (parts : List OpPart) :
    t.partBytes parts = s.partBytes parts := by
  induction parts with
  | nil => rfl
  | cons p rest ih =>
    cases p with
    | bytes bs => simp only [State.partBytes, ih]
    | name k => simp only [State.partBytes, h, ih]

/-- An invocation whose bytes, with names replaced, decode to `i` runs `i`. -/
theorem hostActWith_op {parts : List OpPart} {bytes tail : List Byte} {i : Instr} (hb : s.partBytes parts = some bytes)
    (hd : decode bytes = .ok (i, tail)) : hostActWith ex (.op parts) s = ex i s := by
  simp only [hostActWith, hb, hd]

/-- A command word that reads as `i` runs `i`. -/
theorem hostActWith_command {w : Word} {i : Instr} (hd : decodeCommand w = some i) :
    hostActWith ex (.command w) s = ex i s := by
  simp only [hostActWith, hd]

end

/-- A host turn between two operations begins the next interaction, with the turn and the interaction taken. -/
theorem step_of_hostAct {s : State} {ms : List Mover} {a : HostAct} {rest : List HostAct}
    (ha : s.params.regMap.aligned = true) (he : s.hostEnabled = true) (ht : s.ctx.todo = []) (hs : s.sched = .host :: ms)
    (hp : s.program = a :: rest) : step s = hostActWith exec a { s with sched := ms, program := rest } :=
  calc step s = hostStepWith exec { s with sched := ms } := step_of_sched ha hs
    _ = hostActWith exec a { s with sched := ms, program := rest } :=
      hostStepWith_of_program (s := { s with sched := ms }) he ht hp

/-! ### The obligations -/

/-- Settles O6: the host's turn begins the interaction, and the interaction runs what its bytes or its word decode to. Taking
the turn and the interaction changes no name's result, so the bytes are those of the state before (`partBytes_congr`). -/
theorem stepRunsDecoded : Obligations.StepRunsDecoded := by
  intro s ms rest i ha he ht hs
  constructor
  · intro parts bytes tail hp hb hd
    have hb' := (partBytes_congr s { s with sched := ms, program := rest } rfl parts).trans hb
    exact (step_of_hostAct ha he ht hs hp).trans (hostActWith_op hb' hd)
  · intro w hp hd
    exact (step_of_hostAct ha he ht hs hp).trans (hostActWith_command hd)

/-- Settles O7: the turn decides the agent (`step_of_sched`), and a host turn with host steps still to make goes on. -/
theorem stepIsOneAgentsStep : Obligations.StepIsOneAgentsStep := by
  intro s ms
  refine ⟨step_of_unaligned, fun ha => ⟨?host, step_of_sched ha, step_of_sched ha, step_of_sched ha, step_of_sched ha,
    step_of_sched ha⟩⟩
  case host =>
    intro hs he ht
    exact (step_of_sched ha hs).trans (hostStepWith_of_todo (s := { s with sched := ms }) he ht)

end Sys2Proof.Machine
end

section
/-! PROOFS, family 10_state: what a step can do. The agent that has the turn makes its own step (`step_cases`); a host step and
a step of interrupt code are taken apart once (`HostMove`, `IrqMove`), and every invariant of this family is derived from
those. -/

namespace Sys2Proof.Machine

/-! ### The turn (R9, R83) -/

/-- A step is the refusal of an unaligned map, or the step of the agent whose turn it is. -/
theorem step_cases {s t : State} (e : step s = .next t) :
    t = s.refuse .badRegMap ∧ s.params.regMap.aligned = false ∨
      agentStepWith exec s.mover s.takeMover.2 = .next t ∧ s.params.regMap.aligned = true := by
  cases ha : s.params.regMap.aligned with
  | false => rw [step_of_unaligned ha] at e; cases e; exact .inl ⟨rfl, rfl⟩
  | true => simp only [step, stepWith, ha, if_true] at e; exact .inr ⟨e, rfl⟩

/-- The choice of the agent takes a turn from the schedule or draws a free value, and changes nothing else. -/
theorem takeMover_state (s : State) : ∃ ms d, s.takeMover.2 = { s with sched := ms, draws := d } := by
  unfold State.takeMover
  split
  · exact ⟨_, _, rfl⟩
  · exact ⟨_, _, rfl⟩

/-! ### The host (R10, R388) -/

/-- What an interaction of the host can do: it runs an operation, or is a mark, a read or a store of SDRAM bytes. -/
inductive InteractionMove (s : State) : State → Prop where
  | exec {i : Instr} {t : State} : exec i s = .next t → InteractionMove s t
  | refuse (r : Refusal) : InteractionMove s (s.refuse r)
  | raise (f : Fault) : InteractionMove s (s.raiseFault f)
  | name (k : Nat) (v : Value) : InteractionMove s { s.recordRead (.res v) with names := assocSet k v s.names }
  | read (r : Reg) : InteractionMove s (s.regRead r)
  | record (r : ReadRec) : InteractionMove s (s.recordRead r)
  | store (a : Nat) (bs : List Byte) : InteractionMove s { s with sdram := s.sdramStore s.sdram a bs }

theorem busRead_move {s t : State} {a n : Nat} (e : s.busRead a n = .next t) : InteractionMove s t := by
  unfold State.busRead at e
  split at e <;> cases e
  · exact .read _
  · exact .refuse _
  · exact .raise _
  · exact .record _

theorem busWrite_move {s t : State} {a : Nat} {bs : List Byte} (e : s.busWrite a bs = .next t) : InteractionMove s t := by
  unfold State.busWrite at e
  split at e <;> cases e
  · exact .refuse _
  · exact .raise _
  · exact .store _ _

theorem hostAct_move {s t : State} {a : HostAct} (e : hostActWith exec a s = .next t) : InteractionMove s t := by
  cases a with
  | op parts =>
    simp only [hostActWith] at e
    split at e
    · cases e; exact .refuse _
    · split at e
      · exact .exec e
      · cases e; exact .refuse _
      · cases e; exact .refuse _
  | command w =>
    simp only [hostActWith] at e
    split at e
    · exact .exec e
    · cases e; exact .refuse _
  | readRes k =>
    simp only [hostActWith, State.readRes] at e
    split at e <;> cases e
    · exact .raise _
    · exact .name _ _
  | memRead a n => exact busRead_move e
  | memWrite a bs => exact busWrite_move e

/-- What a host step can do: nothing, the next host step of the operation in progress, or the next interaction. -/
inductive HostMove (s : State) : State → Prop where
  | idle : HostMove s s
  | goOn : s.ctx.todo ≠ [] → HostMove s s.continueOp
  | interact {p : List HostAct} {t : State} : s.ctx.todo = [] → InteractionMove { s with program := p } t → HostMove s t

theorem hostStep_move {s t : State} (e : hostStepWith exec s = .next t) : HostMove s t := by
  unfold hostStepWith at e
  split at e
  · cases e; exact .idle
  · split at e
    · rename_i h _ ht; cases e; exact .goOn (by rw [ht]; exact List.cons_ne_nil _ _)
    · split at e
      · cases e; exact .idle
      · exact .interact ‹_› (hostAct_move e)

/-! ### Interrupt code (R344) -/

/-- The work of one step of the activation `a`, before the end of the activation is looked at; the second index is the
activation with the items it has then still to run. -/
inductive IrqWork (s : State) (a : Activation) : Activation → State → Prop where
  | goOn : s.ctx.todo ≠ [] → IrqWork s a a s.continueOp
  | nothing : IrqWork s a a s
  | op {i : Instr} {rest : List IrqItem} {t : State} : a.rest = .op i :: rest →
      exec i { s with irq := some { a with rest := rest } } = .next t → IrqWork s a { a with rest := rest } t
  | read {r : Reg} {rest : List IrqItem} : a.rest = .regRead r :: rest →
      IrqWork s a { a with rest := rest } ({ s with irq := some { a with rest := rest } }.regRead r)
  | write {r : Reg} {w : Word} {rest : List IrqItem} {t : State} : a.rest = .regWrite r w :: rest →
      { s with irq := some { a with rest := rest } }.regWrite r w = .ok t → IrqWork s a { a with rest := rest } t
  | fault {r : Reg} {w : Word} {rest : List IrqItem} (f : Fault) : a.rest = .regWrite r w :: rest →
      IrqWork s a { a with rest := rest } ({ s with irq := some { a with rest := rest } }.raiseFault f)

/-- What a step of the IRQ agent can do. -/
inductive IrqMove (s : State) : State → Prop where
  | idle : IrqMove s s
  | begins : s.irq = none → s.imask = false →
      IrqMove s { s with irq := some ⟨s.ctx, s.params.irqProgram, s.csStack⟩, ctx := Ctx.idle }
  | runs {a b : Activation} {v : State} : s.irq = some a → IrqWork s a b v → IrqMove s (irqFinish s b v)

theorem irqBegin_move {s : State} (h : s.irq = none) : IrqMove s s.irqBegin := by
  unfold State.irqBegin
  split
  · rename_i hb
    simp only [State.irqMayBegin, Bool.and_eq_true, Bool.not_eq_true'] at hb
    obtain ⟨⟨-, hm⟩, -⟩ := hb
    exact .begins h hm
  · exact .idle

theorem irqItem_work {s v : State} {a : Activation} {i : IrqItem} {rest : List IrqItem} (hr : a.rest = i :: rest)
    (e : irqItemWith exec i { s with irq := some { a with rest := rest } } = .next v) :
    IrqWork s a { a with rest := rest } v := by
  cases i with
  | op o => exact .op hr e
  | regRead r =>
    simp only [irqItemWith, State.rawRead] at e
    split at e <;> cases e
    exact .read hr
  | regWrite r w =>
    simp only [irqItemWith, State.rawWrite] at e
    split at e
    · split at e <;> cases e
      · exact .write hr ‹_›
      · exact .fault _ hr
    · cases e

theorem irqStep_move {s t : State} (e : irqStepWith exec s = .next t) : IrqMove s t := by
  unfold irqStepWith at e
  split at e
  · cases e; exact .idle
  · split at e
    · cases e; exact irqBegin_move ‹_›
    · rename_i a ha
      unfold irqRunWith at e
      split at e
      · rename_i ht; cases e; exact .runs ha (.goOn (by rw [ht]; exact List.cons_ne_nil _ _))
      · split at e
        · cases e; exact .runs ha .nothing
        · dsimp only at e
          split at e
          · rename_i hr _ _ hi; cases e; exact .runs ha (irqItem_work hr hi)
          · cases e
          · cases e

/-- What the end of an interrupt step makes of the work: it stands, or it was the last and the host resumes, or the step is
refused. -/
theorem irqFinish_cases (s : State) (a : Activation) (t : State) :
    irqFinish s a t = t ∨ irqFinish s a t = { t with ctx := a.saved, irq := none } ∨
      irqFinish s a t = s.refuse .unbalancedCriticalSection := by
  unfold irqFinish
  split
  · exact .inl rfl
  · split
    · exact .inl rfl
    · split
      · exact .inr (.inl rfl)
      · exact .inr (.inr rfl)

/-! ### Properties that host code and interrupt code keep -/

/-- `P` is kept by each primitive change that a host step makes. -/
structure KeptByHost (P : State → Prop) : Prop extends KeptByOps P where
  program : ∀ s p, P s → P { s with program := p }
  record : ∀ s r, P s → P (s.recordRead r)
  names : ∀ s k v, P s → P { s with names := assocSet k v s.names }
  store : ∀ s a bs, P s → P { s with sdram := s.sdramStore s.sdram a bs }

/-- `P` is kept by each primitive change that a step of interrupt code makes. -/
structure KeptByIrq (P : State → Prop) : Prop extends KeptByOps P where
  irq : ∀ s q, P s → P { s with irq := q }

variable {P : State → Prop}

theorem KeptByHost.interaction (k : KeptByHost P) {s t : State} (h : P s) (m : InteractionMove s t) : P t := by
  cases m with
  | exec e => exact k.exec_next h e
  | refuse r => exact k.refuse _ _ h
  | raise f => exact k.raise _ _ h
  | name n v => exact k.names _ n v (k.record _ _ h)
  | read r => exact k.read _ _ h
  | record r => exact k.record _ _ h
  | store a bs => exact k.store _ _ _ h

theorem KeptByHost.hostStep (k : KeptByHost P) {s t : State} (h : P s) (e : hostStepWith exec s = .next t) : P t := by
  cases hostStep_move e with
  | idle => exact h
  | goOn _ => exact k.continueOp h
  | interact _ m => exact k.interaction (k.program _ _ h) m

theorem KeptByIrq.work (k : KeptByIrq P) {s t : State} {a b : Activation} (h : P s) (w : IrqWork s a b t) : P t := by
  cases w with
  | goOn _ => exact k.continueOp h
  | nothing => exact h
  | op _ e => exact k.exec_next (k.irq _ _ h) e
  | read _ => exact k.read _ _ (k.irq _ _ h)
  | write _ e => exact k.write _ _ _ _ (k.irq _ _ h) e
  | fault f _ => exact k.raise _ _ (k.irq _ _ h)

theorem KeptByIrq.irqStep (k : KeptByIrq P) {s t : State} (h : P s) (e : irqStepWith exec s = .next t) : P t := by
  cases irqStep_move e with
  | idle => exact h
  | begins _ _ => exact k.irq _ _ (k.ctx _ Ctx.idle h)
  | @runs a b v _ w =>
    rcases irqFinish_cases s b v with hf | hf | hf <;> rw [hf]
    · exact k.work h w
    · exact k.irq _ none (k.ctx _ b.saved (k.work h w))
    · exact k.refuse _ _ h

end Sys2Proof.Machine
end

section
/-! PROOFS, family 10_state: what code leaves alone. Host code and interrupt code keep the parameters, the two logs and every
active layer register (10_state.md R47, R53, R54, R56); the other three agents change what their own rules say. -/

namespace Sys2Proof.Machine

/-- What neither host code nor interrupt code changes. -/
structure CodeKeeps (s t : State) : Prop where
  params : t.params = s.params
  sdramLog : t.sdramLog = s.sdramLog
  ltdcLog : t.ltdcLog = s.ltdcLog
  active : t.layers.map Layer.active = s.layers.map Layer.active

theorem CodeKeeps.refl (s : State) : CodeKeeps s s := ⟨rfl, rfl, rfl, rfl⟩

/-- A write of a layer's shadow copy keeps the active copies (45_ltdc.md R295). -/
theorem setLayer_active (s : State) (k : Nat) (r : LayerRegs) :
    (s.setLayer k { s.layer k with shadow := r }).layers.map Layer.active = s.layers.map Layer.active := by
  show (s.layers.set (k - 1) _).map Layer.active = _
  rw [List.map_set]
  refine List.ext_getElem (by simp) fun i h₁ h₂ => ?_
  by_cases hi : k - 1 = i
  · subst hi
    have hl : k - 1 < s.layers.length := by simpa using h₂
    simp [State.layer, hl]
  · simp [hi]

/-- What a register write changes beside the registers: nothing; and of the layers only shadow copies. -/
theorem regWrite_keeps {s t : State} {r : Reg} {w : Word} (e : s.regWrite r w = .ok t) :
    CodeKeeps s t ∧ t.ctx = s.ctx ∧ t.irq = s.irq := by
  cases r with
  | sdcmr =>
    simp only [State.regWrite, State.writeSdcmr] at e
    split at e
    · cases e; exact ⟨.refl _, rfl, rfl⟩
    · split at e <;> cases e
      exact ⟨⟨rfl, rfl, rfl, rfl⟩, rfl, rfl⟩
  | layer k lr => cases e; exact ⟨⟨rfl, rfl, rfl, setLayer_active s k _⟩, rfl, rfl⟩
  | ahb3rstr | sdcr1 | sdcr2 | sdtr1 | sdtr2 | sdrtr =>
    cases e; split <;> exact ⟨⟨rfl, rfl, rfl, rfl⟩, rfl, rfl⟩
  | _ => cases e; exact ⟨⟨rfl, rfl, rfl, rfl⟩, rfl, rfl⟩

theorem CodeKeeps.keptByOps (s : State) : KeptByOps (CodeKeeps s) where
  ctx _ _ h := { h with }
  read _ _ h := { h with }
  write u r w t h e := by
    obtain ⟨g, -, -⟩ := regWrite_keeps e
    exact ⟨g.params.trans h.params, g.sdramLog.trans h.sdramLog, g.ltdcLog.trans h.ltdcLog, g.active.trans h.active⟩
  mask _ _ _ h := { h with }
  seq _ _ _ h := { h with }
  res _ _ h := { h with }
  raise _ _ h := { h with }
  refuse _ _ h := { h with }
  newWatch _ _ _ _ _ _ _ h := { h with }
  watch _ _ _ _ _ _ _ h := { h with }

theorem CodeKeeps.keptByHost (s : State) : KeptByHost (CodeKeeps s) where
  toKeptByOps := CodeKeeps.keptByOps s
  program _ _ h := { h with }
  record _ _ h := { h with }
  names _ _ _ h := { h with }
  store _ _ _ h := { h with }

theorem CodeKeeps.keptByIrq (s : State) : KeptByIrq (CodeKeeps s) where
  toKeptByOps := CodeKeeps.keptByOps s
  irq _ _ h := { h with }

/-- What a reload or a vertical blank leaves: the active copies as they were, or all equal to the shadow copies. -/
structure ReloadKeeps (s t : State) : Prop where
  params : t.params = s.params
  sdramLog : t.sdramLog = s.sdramLog
  ltdcLog : s.ltdcLog <+: t.ltdcLog
  layers : t.layers = s.layers ∨ t.layers = activate s.layers

theorem ltdcReloadStep_keeps (s : State) : ReloadKeeps s s.ltdcReloadStep := by
  unfold State.ltdcReloadStep
  split
  · exact ⟨rfl, rfl, List.prefix_append _ _, .inr rfl⟩
  · exact ⟨rfl, rfl, List.prefix_rfl, .inl rfl⟩

theorem ltdcVBlankStep_keeps (s : State) : ReloadKeeps s s.ltdcVBlankStep := by
  unfold State.ltdcVBlankStep
  split
  · split
    · exact ⟨rfl, rfl, List.prefix_append _ _, .inr rfl⟩
    · exact ⟨rfl, rfl, List.prefix_append _ _, .inl rfl⟩
  · exact ⟨rfl, rfl, List.prefix_rfl, .inl rfl⟩

/-- The FMC's step extends SDRAM_LOG and keeps the rest. -/
theorem fmcStep_keeps (s : State) : s.fmcStep.params = s.params ∧ s.sdramLog <+: s.fmcStep.sdramLog ∧
    s.fmcStep.ltdcLog = s.ltdcLog ∧ s.fmcStep.layers = s.layers := by
  unfold State.fmcStep
  split
  · split
    · exact ⟨rfl, List.prefix_rfl, rfl, rfl⟩
    · exact ⟨rfl, List.prefix_append _ _, rfl, rfl⟩
  · exact ⟨rfl, List.prefix_rfl, rfl, rfl⟩

theorem tickStep_keeps (s : State) : CodeKeeps s s.tickStep := by
  unfold State.tickStep
  split <;> exact ⟨rfl, rfl, rfl, rfl⟩

/-- What a step does to the parameters, the logs and the layers, by the agent whose turn it is. -/
inductive OutputMove (s t : State) : Prop where
  | code : CodeKeeps s t → OutputMove s t
  | fmc : s.mover = .fmc → t.params = s.params → s.sdramLog <+: t.sdramLog → t.ltdcLog = s.ltdcLog →
      t.layers = s.layers → OutputMove s t
  | ltdc : s.mover = .ltdcReload ∨ s.mover = .ltdcVBlank → ReloadKeeps s t → OutputMove s t

theorem step_outputs {s t : State} (e : step s = .next t) : OutputMove s t := by
  obtain ⟨ms, d, hu⟩ := takeMover_state s
  rcases step_cases e with ⟨rfl, -⟩ | ⟨e, -⟩
  · exact .code ⟨rfl, rfl, rfl, rfl⟩
  · rw [hu] at e
    cases hm : s.mover with
    | host =>
      rw [hm] at e
      exact .code ((CodeKeeps.keptByHost s).hostStep (s := { s with sched := ms, draws := d }) ⟨rfl, rfl, rfl, rfl⟩ e)
    | irq =>
      rw [hm] at e
      exact .code ((CodeKeeps.keptByIrq s).irqStep (s := { s with sched := ms, draws := d }) ⟨rfl, rfl, rfl, rfl⟩ e)
    | tick =>
      rw [hm] at e; cases e
      obtain ⟨h₁, h₂, h₃, h₄⟩ := tickStep_keeps { s with sched := ms, draws := d }
      exact .code ⟨h₁, h₂, h₃, h₄⟩
    | fmc =>
      rw [hm] at e; cases e
      obtain ⟨h₁, h₂, h₃, h₄⟩ := fmcStep_keeps { s with sched := ms, draws := d }
      exact .fmc hm h₁ h₂ h₃ h₄
    | ltdcReload =>
      rw [hm] at e; cases e
      obtain ⟨h₁, h₂, h₃, h₄⟩ := ltdcReloadStep_keeps { s with sched := ms, draws := d }
      exact .ltdc (.inl hm) ⟨h₁, h₂, h₃, h₄⟩
    | ltdcVBlank =>
      rw [hm] at e; cases e
      obtain ⟨h₁, h₂, h₃, h₄⟩ := ltdcVBlankStep_keeps { s with sched := ms, draws := d }
      exact .ltdc (.inr hm) ⟨h₁, h₂, h₃, h₄⟩

theorem activate_active (ls : List Layer) : (activate ls).map Layer.active = ls.map Layer.shadow := by
  simp [activate]

theorem activate_shadow (ls : List Layer) : (activate ls).map Layer.shadow = ls.map Layer.shadow := by
  simp [activate]

/-! ### The obligations -/

/-- Settles O10. Code keeps all three; the FMC's step extends SDRAM_LOG alone, the LTDC's two steps LTDC_LOG alone. -/
theorem parametersConstantLogsGrow : Obligations.ParametersConstantLogsGrow := by
  intro s t e
  cases step_outputs e with
  | code h =>
    exact ⟨h.params, h.sdramLog ▸ List.prefix_rfl, h.ltdcLog ▸ List.prefix_rfl, fun _ => h.sdramLog,
      fun _ _ => h.ltdcLog⟩
  | fmc hm hp hs hl _ => exact ⟨hp, hs, hl ▸ List.prefix_rfl, fun hn => absurd hm hn, fun _ _ => hl⟩
  | ltdc hm h =>
    exact ⟨h.params, h.sdramLog ▸ List.prefix_rfl, h.ltdcLog, fun _ => h.sdramLog,
      fun hr hv => hm.elim (fun e => absurd e hr) fun e => absurd e hv⟩

/-- Settles O53. Code keeps the active copies; a reload copies every shadow copy to its active one and keeps it. -/
theorem activeChangesOnlyByReload : Obligations.ActiveChangesOnlyByReload := by
  intro s t e
  cases step_outputs e with
  | code h => exact ⟨by simpa using congrArg List.length h.active, fun _ _ => h.active, .inl h.active⟩
  | fmc _ _ _ _ h => rw [h]; exact ⟨rfl, fun _ _ => rfl, .inl rfl⟩
  | ltdc hm h =>
    have hne : s.mover ≠ .ltdcReload → s.mover ≠ .ltdcVBlank → t.layers.map Layer.active = s.layers.map Layer.active :=
      fun hr hv => hm.elim (fun e => absurd e hr) fun e => absurd e hv
    rcases h.layers with h | h
    · exact ⟨congrArg List.length h, hne, .inl (by rw [h])⟩
    · exact ⟨by simp [h, activate], hne, .inr (by rw [h]; exact ⟨activate_active _, activate_shadow _⟩)⟩

end Sys2Proof.Machine
end

section
/-! PROOFS, family 10_state: the register invariant (R41 to R53, R226). It is taken apart into one fact per register, and a
register write is shown to keep it, register by register. -/

namespace Sys2Proof.Machine

/-! ### Words within a mask -/

theorem within_and (m w : Word) : within m (w &&& m) = true := by
  simp [within, BitVec.and_assoc]

theorem within_and_of_within {m w : Word} (v : Word) (h : within m w = true) : within m (w &&& v) = true := by
  simp only [within, beq_iff_eq] at h ⊢
  rw [BitVec.and_assoc, BitVec.and_comm v, ← BitVec.and_assoc, h]
  exact BitVec.zero_and

theorem within_or {m w v : Word} (hw : within m w = true) (hv : within m v = true) : within m (w ||| v) = true := by
  simp only [within, beq_iff_eq] at hw hv ⊢
  have hd : (w ||| v) &&& ~~~m = w &&& ~~~m ||| v &&& ~~~m := by
    ext i hi
    simp [Bool.and_or_distrib_right]
  rw [hd, hw, hv, BitVec.or_self]

/-- Every reset word but GCR's has no bit but those that a write stores. -/
theorem within_resetWord (p : Params) {r : Reg} (h : r ≠ .gcr) : within (p.writeMask r) (p.resetWord r) = true := by
  cases r with
  | gcr => exact absurd rfl h
  | _ => exact within_and _ _

/-! ### GCR (R49) -/

theorem fieldsMask_append (fs gs : List BitField) : fieldsMask (fs ++ gs) = fieldsMask fs ||| fieldsMask gs := by
  refine BitVec.eq_of_getLsbD_eq fun i _ => ?_
  rw [BitVec.getLsbD_or, fieldsMask_bit, fieldsMask_bit, fieldsMask_bit, List.any_append]

/-- Outside its read-write fields GCR has at reset the map's word in the read-only fields. -/
theorem resetWord_gcr_readOnly (p : Params) : p.resetWord .gcr &&& ~~~p.writeMask .gcr =
    p.regMap.resets.gcr &&& fieldsMask p.regMap.fields.gcr.readOnly := by
  have hm : p.mask .gcr = fieldsMask p.regMap.fields.gcr.written ||| fieldsMask p.regMap.fields.gcr.readOnly :=
    fieldsMask_append _ _
  simp only [Params.resetWord, Params.writeMask, hm]
  generalize fieldsMask p.regMap.fields.gcr.written = a, fieldsMask p.regMap.fields.gcr.readOnly = b
  ext i hi
  simp only [BitVec.getElem_and, BitVec.getElem_or, BitVec.getElem_not]
  cases a[i] <;> cases b[i] <;> simp

/-- A write of GCR keeps what it holds outside its read-write fields, in the read-only ones. -/
theorem gcrWrite_readOnly (p : Params) (old w : Word) : gcrWrite p old w &&& ~~~p.writeMask .gcr =
    old &&& ~~~p.writeMask .gcr &&& fieldsMask p.regMap.fields.gcr.readOnly := by
  simp only [gcrWrite, Params.writeMask]
  generalize fieldsMask p.regMap.fields.gcr.written = a, fieldsMask p.regMap.fields.gcr.readOnly = b
  ext i hi
  simp only [BitVec.getElem_and, BitVec.getElem_or, BitVec.getElem_not]
  cases a[i] <;> cases b[i] <;> simp

/-! ### Layers (R53) -/

theorem LayerRegs.get_set (l : LayerRegs) (w : Word) (r q : LayerReg) :
    (l.set w r).get q = if q = r then w else l.get q := by
  cases r <;> cases q <;> rfl

theorem layerRegsOk_iff (p : Params) (l : LayerRegs) :
    layerRegsOk p l = true ↔ ∀ r, within (p.mask (.layer 1 r)) (l.get r) = true := by
  simp only [layerRegsOk, List.all_eq_true]
  exact ⟨fun h r => h r (by cases r <;> decide), fun h r _ => h r⟩

theorem layerRegsOk_set {p : Params} {l : LayerRegs} (h : layerRegsOk p l = true) (k : Nat) (w : Word) (r : LayerReg) :
    layerRegsOk p (l.set (w &&& p.writeMask (.layer k r)) r) = true := by
  rw [layerRegsOk_iff] at h ⊢
  intro q
  rw [LayerRegs.get_set]
  split
  · subst q; exact within_and _ _
  · exact h q

theorem layerRegsOk_reset (p : Params) : layerRegsOk p (LayerRegs.reset p) = true := by
  rw [layerRegsOk_iff]
  intro r
  have hr : (LayerRegs.reset p).get r = p.resetWord (.layer 1 r) := by cases r <;> rfl
  rw [hr]
  exact within_resetWord p Reg.noConfusion

/-- Neither copy of a layer has a reserved bit set: the conjunct that `regInv` asks of each layer, as propositions. -/
def LayerCopiesOk (p : Params) (l : Layer) : Prop := layerRegsOk p l.shadow = true ∧ layerRegsOk p l.active = true

/-- A write of a shadow register keeps the layers' reserved bits 0; where the layer is not there it changes nothing. -/
theorem setLayer_ok {s : State} (h : ∀ l ∈ s.layers, LayerCopiesOk s.params l) (k : Nat) (r : LayerReg) (w : Word) :
    ∀ l ∈ (s.setLayer k { s.layer k with
      shadow := (s.layer k).shadow.set (w &&& s.params.writeMask (.layer k r)) r }).layers, LayerCopiesOk s.params l := by
  intro l hl
  by_cases hk : k - 1 < s.layers.length
  · have hm : s.layer k ∈ s.layers := by
      simp only [State.layer, List.getD_eq_getElem?_getD, List.getElem?_eq_getElem hk, Option.getD_some]
      exact List.getElem_mem hk
    rcases List.mem_or_eq_of_mem_set hl with hl | rfl
    · exact h l hl
    · obtain ⟨hs, ha⟩ := h _ hm
      exact ⟨layerRegsOk_set hs k w r, ha⟩
  · have hs : ∀ m, s.layers.set (k - 1) m = s.layers := fun m => List.set_eq_of_length_le (Nat.le_of_not_lt hk)
    simp only [State.setLayer, hs] at hl
    exact h l hl

theorem activate_ok {p : Params} {ls : List Layer} (h : ∀ l ∈ ls, LayerCopiesOk p l) :
    ∀ l ∈ activate ls, LayerCopiesOk p l := by
  intro l hl
  obtain ⟨m, hm, rfl⟩ := List.mem_map.1 hl
  obtain ⟨hs, -⟩ := h m hm
  exact ⟨hs, hs⟩

/-! ### The invariant, one fact per register -/

/-- `regInv` as propositions. -/
structure RegInv (s : State) : Prop where
  sdcr1 : within (s.params.writeMask .sdcr1) s.sdcr1 = true
  sdcr2 : within (s.params.writeMask .sdcr2) s.sdcr2 = true
  sdtr1 : within (s.params.writeMask .sdtr1) s.sdtr1 = true
  sdtr2 : within (s.params.writeMask .sdtr2) s.sdtr2 = true
  sdrtr : within (s.params.writeMask .sdrtr) s.sdrtr = true
  sscr : within (s.params.writeMask .sscr) s.sscr = true
  bpcr : within (s.params.writeMask .bpcr) s.bpcr = true
  awcr : within (s.params.writeMask .awcr) s.awcr = true
  twcr : within (s.params.writeMask .twcr) s.twcr = true
  srcr : within (s.params.writeMask .srcr) s.srcr = true
  bccr : within (s.params.writeMask .bccr) s.bccr = true
  gcr : s.gcr &&& ~~~s.params.writeMask .gcr = s.params.resetWord .gcr &&& ~~~s.params.writeMask .gcr
  layers : ∀ l ∈ s.layers, LayerCopiesOk s.params l
  busy : s.busy = s.fmcPending.isSome
  held : s.fmcrst = true → s.fmcAtReset = true

theorem regInv_iff (s : State) : s.regInv = true ↔ RegInv s := by
  have hr : (!s.fmcrst || s.fmcAtReset) = true ↔ (s.fmcrst = true → s.fmcAtReset = true) := by
    cases s.fmcrst <;> simp
  simp only [State.regInv, plainRegs, State.regHeld, List.all_cons, List.all_nil, Bool.and_true, Bool.and_eq_true,
    List.all_eq_true, beq_iff_eq, hr]
  constructor
  · rintro ⟨⟨⟨⟨⟨h₁, h₂, h₃, h₄, h₅, h₆, h₇, h₈, h₉, h₁₀, h₁₁⟩, hg⟩, hl⟩, hb⟩, hh⟩
    exact ⟨h₁, h₂, h₃, h₄, h₅, h₆, h₇, h₈, h₉, h₁₀, h₁₁, hg, hl, hb, hh⟩
  · rintro ⟨h₁, h₂, h₃, h₄, h₅, h₆, h₇, h₈, h₉, h₁₀, h₁₁, hg, hl, hb, hh⟩
    exact ⟨⟨⟨⟨⟨h₁, h₂, h₃, h₄, h₅, h₆, h₇, h₈, h₉, h₁₀, h₁₁⟩, hg⟩, hl⟩, hb⟩, hh⟩

theorem fmcrst_of_fmcWritable {s : State} (h : s.fmcWritable = true) : s.fmcrst = false := by
  simp only [State.fmcWritable, Bool.and_eq_true, Bool.not_eq_true'] at h
  exact h.2

/-- A machine that takes FMC writes is not held in reset. -/
theorem held_of_fmcWritable {s : State} {p : Prop} (h : s.fmcWritable = true) : s.fmcrst = true → p := fun hr => by
  rw [fmcrst_of_fmcWritable h] at hr; cases hr

/-- The FMC reset puts every FMC register at its reset value (R226). -/
theorem fmcReset_atReset (s : State) : s.fmcReset.fmcAtReset = true := by
  simp [State.fmcAtReset, State.regHeld]

theorem RegInv.fmcReset {s : State} (h : RegInv s) : RegInv s.fmcReset :=
  { h with
    sdcr1 := within_resetWord _ Reg.noConfusion
    sdcr2 := within_resetWord _ Reg.noConfusion
    sdtr1 := within_resetWord _ Reg.noConfusion
    sdtr2 := within_resetWord _ Reg.noConfusion
    sdrtr := within_resetWord _ Reg.noConfusion
    busy := rfl
    held := fun _ => fmcReset_atReset s }

/-- Every register write keeps the invariant (R84, R85). -/
theorem RegInv.regWrite {s t : State} {r : Reg} {w : Word} (h : RegInv s) (e : s.regWrite r w = .ok t) : RegInv t := by
  cases r with
  | dwtCtrl | dwtCyccnt | demcr | ahb3enr | sdsr => cases e; exact { h with }
  | ahb3rstr =>
    cases e; split
    · exact h.fmcReset
    · exact { h with held := Bool.noConfusion }
  | sdcr1 =>
    cases e; split
    · rename_i hw; exact { h with sdcr1 := within_and _ _, held := held_of_fmcWritable hw }
    · exact h
  | sdcr2 =>
    cases e; split
    · rename_i hw; exact { h with sdcr2 := within_and _ _, held := held_of_fmcWritable hw }
    · exact h
  | sdtr1 =>
    cases e; split
    · rename_i hw; exact { h with sdtr1 := within_and _ _, held := held_of_fmcWritable hw }
    · exact h
  | sdtr2 =>
    cases e; split
    · rename_i hw; exact { h with sdtr2 := within_and _ _, held := held_of_fmcWritable hw }
    · exact h
  | sdrtr =>
    cases e; split
    · rename_i hw; exact { h with sdrtr := within_and _ _, held := held_of_fmcWritable hw }
    · exact h
  | sdcmr =>
    simp only [State.regWrite, State.writeSdcmr] at e
    split at e
    · cases e; exact h
    · rename_i hw
      have hw : s.fmcWritable = true := by simpa using hw
      split at e <;> cases e
      exact { h with busy := rfl, held := held_of_fmcWritable hw }
  | sscr => cases e; exact { h with sscr := within_and _ _ }
  | bpcr => cases e; exact { h with bpcr := within_and _ _ }
  | awcr => cases e; exact { h with awcr := within_and _ _ }
  | twcr => cases e; exact { h with twcr := within_and _ _ }
  | bccr => cases e; exact { h with bccr := within_and _ _ }
  | srcr => cases e; exact { h with srcr := within_or h.srcr (within_and _ _) }
  | gcr =>
    cases e
    refine { h with gcr := ?_ }
    calc gcrWrite s.params s.gcr w &&& ~~~s.params.writeMask .gcr
        = s.params.resetWord .gcr &&& ~~~s.params.writeMask .gcr &&& fieldsMask s.params.regMap.fields.gcr.readOnly := by
          rw [gcrWrite_readOnly, h.gcr]
      _ = s.params.resetWord .gcr &&& ~~~s.params.writeMask .gcr := by
          rw [resetWord_gcr_readOnly, BitVec.and_assoc, BitVec.and_self]
  | layer k lr => cases e; exact { h with layers := setLayer_ok h.layers k lr w }

theorem RegInv.fmcStep {s : State} (h : RegInv s) : RegInv s.fmcStep := by
  unfold State.fmcStep
  split
  · rename_i he
    split
    · exact h
    · have hw : s.fmcWritable = true := by
        simp only [State.fmcEnabled, Bool.and_eq_true] at he
        obtain ⟨⟨-, hw⟩, -⟩ := he
        exact hw
      exact { h with busy := rfl, held := held_of_fmcWritable hw }
  · exact h

theorem RegInv.ltdcReloadStep {s : State} (h : RegInv s) : RegInv s.ltdcReloadStep := by
  unfold State.ltdcReloadStep
  split
  · exact { h with layers := activate_ok h.layers, srcr := within_and_of_within _ h.srcr }
  · exact h

theorem RegInv.ltdcVBlankStep {s : State} (h : RegInv s) : RegInv s.ltdcVBlankStep := by
  unfold State.ltdcVBlankStep
  split
  · split
    · exact { h with layers := activate_ok h.layers, srcr := within_and_of_within _ h.srcr }
    · exact { h with }
  · exact h

theorem RegInv.keptByAll : KeptByAll RegInv where
  ctx _ _ h := { h with }
  read _ _ h := { h with }
  write _ _ _ _ h e := h.regWrite e
  mask _ _ _ h := { h with }
  seq _ _ _ h := { h with }
  res _ _ h := { h with }
  raise _ _ h := { h with }
  refuse _ _ h := { h with }
  newWatch _ _ _ _ _ _ _ h := { h with }
  watch _ _ _ _ _ _ _ h := { h with }
  turn _ _ _ h := { h with }
  program _ _ h := { h with }
  irq _ _ h := { h with }
  record _ _ h := { h with }
  names _ _ _ h := { h with }
  store _ _ _ h := { h with }
  tick s h := by
    unfold State.tickStep
    split
    · exact { h with }
    · exact h
  fmc _ h := h.fmcStep
  reload _ h := h.ltdcReloadStep
  vblank _ h := h.ltdcVBlankStep

theorem RegInv.reset (p : Params) (n : Nat) (c : Word) : RegInv (State.resetFor p n c) where
  sdcr1 := within_resetWord _ Reg.noConfusion
  sdcr2 := within_resetWord _ Reg.noConfusion
  sdtr1 := within_resetWord _ Reg.noConfusion
  sdtr2 := within_resetWord _ Reg.noConfusion
  sdrtr := within_resetWord _ Reg.noConfusion
  sscr := within_resetWord _ Reg.noConfusion
  bpcr := within_resetWord _ Reg.noConfusion
  awcr := within_resetWord _ Reg.noConfusion
  twcr := within_resetWord _ Reg.noConfusion
  srcr := within_resetWord _ Reg.noConfusion
  bccr := within_resetWord _ Reg.noConfusion
  gcr := rfl
  layers l hl := by
    rw [List.eq_of_mem_replicate hl]
    exact ⟨layerRegsOk_reset p, layerRegsOk_reset p⟩
  busy := rfl
  held _ := by simp [State.fmcAtReset, State.regHeld, State.resetFor]

/-! ### The obligation -/

/-- Settles O14: each primitive change of state keeps the invariant (`RegInv.keptByAll`), so every step does. -/
theorem stepKeepsRegisterInvariant : Obligations.StepKeepsRegisterInvariant := by
  intro s t h e
  exact (regInv_iff t).2 (RegInv.keptByAll.step ((regInv_iff s).1 h) e)

end Sys2Proof.Machine
end

section
/-! PROOFS, family 10_state: positions (R32, R38, R300) and the counter (R31, R143). Both invariants speak of the host steps
still to be made: what a host step makes of its position is said once (`doAct_position`, `KeptByMoves`). -/

namespace Sys2Proof.Machine

/-! ### The acts of an operation's steps -/

theorem phaseSteps_acts (p : SeqPhase) (l : List Act) : (phaseSteps p l).map HostStep.act = l := by
  induction l using phaseSteps.induct with
  | case1 => rfl
  | case2 a => rfl
  | case3 a b rest ih => rw [phaseSteps, List.map_cons, ih]

theorem numberedSteps_acts (k : Nat) (l : List (List Act)) : (numberedSteps k l).map HostStep.act = l.flatten := by
  induction l generalizing k with
  | nil => rfl
  | cons op rest ih =>
    have ha : (fun a => HostStep.act ⟨a, none, some k⟩) = id := rfl
    simp [numberedSteps, ih, Function.comp_def]

theorem plainSteps_acts (l : List Act) : (plainSteps l).map HostStep.act = l := by
  simp [plainSteps, Function.comp_def]

/-- The acts of a bring-up, in order (R222). -/
def bringupActs (p : Params) (b : Bank) (sdcr sdtr : Word) (mr : BitVec 13) (refresh : BitVec 16) : List Act :=
  let m := p.regMap.fields
  [.enterBringup b, .clockBranch] ++ geometryActs b sdcr (ctrlMask m p.bank1OnlyCtrl) ++
    timingActs b sdtr (timMask m p.bank1OnlyTiming) ++ cmdClkActs m b p.clkHz ++ cmdPallActs m b ++ cmdArefActs m b ++
    cmdLmrActs m b mr ++ [.write .sdrtr (sdrtrWord m refresh), .leave]

theorem bringupSteps_acts (p : Params) (b : Bank) (sdcr sdtr : Word) (mr : BitVec 13) (refresh : BitVec 16) :
    (bringupSteps p b sdcr sdtr mr refresh).map HostStep.act = bringupActs p b sdcr sdtr mr refresh := by
  simp [bringupSteps, bringupActs, phaseSteps_acts]

/-! ### Delays are polled (R161) -/

/-- Whether the delays of a list of steps are polled is a matter of their acts. -/
theorem delaysPolled_acts (l : List HostStep) : delaysPolled l = delaysPolled (plainSteps (l.map HostStep.act)) := by
  induction l with
  | nil => rfl
  | cons h rest ih =>
    have hh : (plainSteps (rest.map HostStep.act)).head?.map HostStep.act = rest.head?.map HostStep.act := by
      cases rest <;> rfl
    simp only [List.map_cons, plainSteps, delaysPolled] at ih ⊢
    rw [ih]
    simp only [plainSteps] at hh
    rw [hh]

theorem delaysPolled_append {l m : List HostStep} (hl : delaysPolled l = true) (hm : delaysPolled m = true) :
    delaysPolled (l ++ m) = true := by
  induction l with
  | nil => exact hm
  | cons h rest ih =>
    simp only [List.cons_append, delaysPolled, Bool.and_eq_true] at hl ⊢
    obtain ⟨hh, hr⟩ := hl
    refine ⟨?_, ih hr⟩
    cases rest with
    | nil =>
      split at hh
      · simp only [List.head?_nil, Option.map_none, beq_iff_eq, Bool.or_eq_true, reduceCtorEq, or_false] at hh
        simp [hh]
      · rfl
    | cons g rest => exact hh

/-- Acts of several parts, one after the other. -/
theorem delaysPolled_plain_append {l m : List Act} (hl : delaysPolled (plainSteps l) = true)
    (hm : delaysPolled (plainSteps m) = true) : delaysPolled (plainSteps (l ++ m)) = true := by
  simpa [plainSteps] using delaysPolled_append hl hm

theorem delaysPolled_delayActs (t : DWord) : delaysPolled (plainSteps (delayActs t)) = true := by
  unfold delayActs
  split
  · subst t; rfl
  · simp [plainSteps, delaysPolled]

theorem delaysPolled_bringup (p : Params) (b : Bank) (sdcr sdtr : Word) (mr : BitVec 13) (refresh : BitVec 16) :
    delaysPolled (bringupSteps p b sdcr sdtr mr refresh) = true := by
  have geometry : delaysPolled (plainSteps (geometryActs b sdcr (ctrlMask p.regMap.fields p.bank1OnlyCtrl))) = true := by
    cases b <;> rfl
  have timing : delaysPolled (plainSteps (timingActs b sdtr (timMask p.regMap.fields p.bank1OnlyTiming))) = true := by
    cases b <;> rfl
  have clk : delaysPolled (plainSteps (cmdClkActs p.regMap.fields b p.clkHz)) = true :=
    delaysPolled_plain_append (delaysPolled_plain_append rfl (delaysPolled_delayActs _)) rfl
  rw [delaysPolled_acts, bringupSteps_acts]
  refine delaysPolled_plain_append (delaysPolled_plain_append (delaysPolled_plain_append (delaysPolled_plain_append
    (delaysPolled_plain_append (delaysPolled_plain_append (delaysPolled_plain_append ?_ geometry) timing) clk) ?_) ?_) ?_) ?_
  all_goals rfl

/-! ### The acts of LT_SETUP (R300) -/

/-- The kinds of acts that LT_SETUP makes: accesses to registers other than CYCCNT, and polls of the reload flags. -/
def setupAct : Act → Bool
  | .read _ => true
  | .writeMod r _ _ => r != .dwtCyccnt
  | .write r _ => r != .dwtCyccnt
  | .pollReload => true
  | .windowH _ _ _ _ _ => true
  | .windowV _ _ _ => true
  | _ => false

theorem layerSetup_acts (p : Params) (l : LayerConfig) : (layerSetup p l).all (·.all setupAct) = true := by
  unfold layerSetup
  cases l.colorKey <;> cases l.fbAddr <;> rfl

theorem setupOps_acts (p : Params) (c : LtdcConfig) : (setupOps p c).all (·.all setupAct) = true := by
  have hl : (c.layers.flatMap (layerSetup p)).all (·.all setupAct) = true := by
    simp only [List.all_flatMap, layerSetup_acts, List.all_eq_true, implies_true]
  have he : (layerEnables p.regMap.fields c.layers).all (·.all setupAct) = true := by
    rw [layerEnables, List.all_map]
    exact List.all_eq_true.2 fun _ _ => rfl
  simp only [setupOps, List.all_append, hl, he]
  rfl

theorem setupSteps_acts (p : Params) (c : LtdcConfig) :
    ((numberedSteps 1 (setupOps p c)).map HostStep.act).all setupAct = true := by
  rw [numberedSteps_acts, List.all_flatten]
  exact setupOps_acts p c

/-- Acts among which there is no delay. -/
theorem delaysPolled_of_setupAct {l : List HostStep} (h : (l.map HostStep.act).all setupAct = true) :
    delaysPolled l = true := by
  induction l with
  | nil => rfl
  | cons g rest ih =>
    simp only [List.map_cons, List.all_cons, Bool.and_eq_true] at h
    obtain ⟨hg, hr⟩ := h
    simp only [delaysPolled, ih hr, Bool.and_true]
    split
    · rename_i ha; rw [ha] at hg; cases hg
    · rfl

/-- Every operation polls the delays it begins. -/
theorem StepsFor.delaysPolled {s : State} {l : List HostStep} (h : StepsFor s l) : delaysPolled l = true := by
  cases h with
  | plain _ _ hd => exact hd
  | bringup b sdcr sdtr mr refresh _ => exact delaysPolled_bringup _ _ _ _ _ _
  | setup c _ => exact delaysPolled_of_setupAct (setupSteps_acts _ _)

/-! ### No operation writes CYCCNT (R31) -/

/-- An act that does not write CYCCNT. -/
def Act.keepsCount (a : Act) : Bool := HostStep.keepsCount ⟨a, none, none⟩

theorem all_keepsCount (l : List HostStep) : l.all HostStep.keepsCount = (l.map HostStep.act).all Act.keepsCount := by
  rw [List.all_map]; rfl

theorem keepsCount_write (r : Reg) (w : Word) : (Act.write r w).keepsCount = (r != .dwtCyccnt) := by
  cases r <;> rfl

theorem keepsCount_writeMod (r : Reg) (m v : Word) : (Act.writeMod r m v).keepsCount = (r != .dwtCyccnt) := by
  cases r <;> rfl

theorem keepsCount_of_plainAct {a : Act} (h : plainAct a = true) : a.keepsCount = true := by
  cases a with
  | write r w => cases r <;> trivial
  | writeMod r m v => cases r <;> trivial
  | _ => rfl

theorem keepsCount_of_setupAct {a : Act} (h : setupAct a = true) : a.keepsCount = true := by
  cases a with
  | write r w => exact (keepsCount_write r w).trans h
  | writeMod r m v => exact (keepsCount_writeMod r m v).trans h
  | _ => rfl

theorem keepsCount_bringup (p : Params) (b : Bank) (sdcr sdtr : Word) (mr : BitVec 13) (refresh : BitVec 16) :
    (bringupActs p b sdcr sdtr mr refresh).all Act.keepsCount = true := by
  have geometry : (geometryActs b sdcr (ctrlMask p.regMap.fields p.bank1OnlyCtrl)).all Act.keepsCount = true := by
    cases b <;> rfl
  have timing : (timingActs b sdtr (timMask p.regMap.fields p.bank1OnlyTiming)).all Act.keepsCount = true := by
    cases b <;> rfl
  have delay : (delayActs (powerupTicks p.clkHz)).all Act.keepsCount = true := by
    unfold delayActs; split <;> rfl
  simp only [bringupActs, cmdClkActs, List.all_append, geometry, timing, delay]
  rfl

theorem StepsFor.keepsCount {s : State} {l : List HostStep} (h : StepsFor s l) : l.all HostStep.keepsCount = true := by
  rw [all_keepsCount]
  cases h with
  | plain acts ha _ =>
    rw [plainSteps_acts]
    exact List.all_eq_true.2 fun a m => keepsCount_of_plainAct (List.all_eq_true.1 ha a m)
  | bringup b sdcr sdtr mr refresh _ => rw [bringupSteps_acts]; exact keepsCount_bringup _ _ _ _ _ _
  | setup c _ =>
    exact List.all_eq_true.2 fun a m => keepsCount_of_setupAct (List.all_eq_true.1 (setupSteps_acts _ c) a m)

/-! ### What one act does -/

/-- What an act can do: stop; write a register, which is CYCCNT only for an act that says so; read one; change the mask or the
sequencer; branch to further steps; begin, go on with or end a delay; hold at a poll. -/
inductive ActMove (s : State) : Act → ActResult → Prop where
  | stop {a : Act} (r : Stop) : ActMove s a (.stop r)
  | write {a : Act} {r : Reg} {w : Word} {t : State} : (a.keepsCount = true → r ≠ .dwtCyccnt) → a ≠ .delayPoll →
      s.regWrite r w = .ok t → ActMove s a (.done t)
  | latch (r : Reg) (w : Word) : ActMove s (.read r) (.done ((s.regRead r).setLatch w))
  | mask {a : Act} (m : Bool) (st : List Bool) : a ≠ .delayPoll → ActMove s a (.done { s with imask := m, csStack := st })
  | bringup (b : Bank) :
      ActMove s (.enterBringup b) (.done { s.csEnter with seqBank := some b, seqPhase := .clockEnable })
  | clocked : ActMove s .clockBranch (.done { s.regRead .ahb3enr with seqPhase := .geometry })
  | unclocked : ActMove s .clockBranch (.done { s.regRead .ahb3enr with
      ctx := { s.ctx with todo := clockSteps s.params.regMap.fields ++ s.ctx.todo } })
  | read {a : Act} (r : Reg) : (a = .delayPoll → s.ctx.wait = none) → ActMove s a (.done (s.regRead r))
  | delayBegins {n : DWord} (w : WaitRegs) : n ≠ 0 → ActMove s (.delayStart n) (.done (s.sample.setWait (some w)))
  | delayEnds : ActMove s .delayPoll (.done (s.sample.setWait none))
  | delayWaits (w : WaitRegs) : ActMove s .delayPoll (.stay (s.sample.setWait (some w)))
  | holds {a : Act} (r : Reg) : ActMove s a (.stay (s.regRead r))

theorem writeAct_move {s : State} {a : Act} {r : Reg} (w : Word) (h : a.keepsCount = true → r ≠ .dwtCyccnt)
    (hp : a ≠ .delayPoll) : ActMove s a (writeAct s r w) := by
  unfold writeAct
  split
  · exact .write h hp ‹_›
  · exact .stop _

theorem doAct_move (a : Act) (s : State) : ActMove s a (doAct a s) := by
  cases a with
  | read r => exact .latch r _
  | writeMod r m v => exact writeAct_move _ (fun h => by simpa [keepsCount_writeMod] using h) Act.noConfusion
  | write r w => exact writeAct_move _ (fun h => by simpa [keepsCount_write] using h) Act.noConfusion
  | enter => exact .mask _ _ Act.noConfusion
  | leave =>
    simp only [doAct, State.csExit?]
    cases s.csStack with
    | nil => exact .stop _
    | cons m ms => exact .mask _ _ Act.noConfusion
  | enterBringup b => exact .bringup b
  | clockBranch =>
    simp only [doAct]
    split
    · exact .clocked
    · exact .unclocked
  | pollClock | pollReload =>
    simp only [doAct]
    split
    · exact .read _ Act.noConfusion
    · exact .holds _
  | pollReady =>
    simp only [doAct]
    split
    · exact .holds _
    · exact .read _ Act.noConfusion
  | delayStart n =>
    simp only [doAct, delayStart]
    split
    · exact .stop _
    · split
      · exact .read _ Act.noConfusion
      · exact .delayBegins _ ‹_›
  | delayPoll =>
    simp only [doAct, delayPoll]
    split
    · exact .read _ fun _ => ‹_›
    · split
      · exact .holds _
      · split
        · exact .delayEnds
        · exact .delayWaits _
  | windowH l x y w h =>
    simp only [doAct]
    split
    · exact .stop _
    · exact writeAct_move _ (fun _ => Reg.noConfusion) Act.noConfusion
  | windowV l y h =>
    simp only [doAct]
    exact writeAct_move _ (fun _ => Reg.noConfusion) Act.noConfusion

/-- An act that is made leaves the steps still to be made, or puts those of an unclocked bring-up before them (R224, R225). -/
theorem doAct_done_todo {s t : State} {a : Act} (e : doAct a s = .done t) :
    t.ctx.todo = s.ctx.todo ∨
      a = .clockBranch ∧ t.ctx.todo = clockSteps s.params.regMap.fields ++ s.ctx.todo := by
  have m := doAct_move a s
  rw [e] at m
  cases m with
  | write _ _ hw => obtain ⟨-, hc, -⟩ := regWrite_keeps hw; exact .inl (by rw [hc])
  | unclocked => exact .inr ⟨rfl, rfl⟩
  | _ => exact .inl rfl

/-- An act that is made leaves no wait registers, unless it begins a delay (R38, R161). -/
theorem doAct_done_wait {s t : State} {a : Act} (e : doAct a s = .done t) (hw : s.ctx.wait = none ∨ a = .delayPoll) :
    t.ctx.wait = none ∨ ∃ n, n ≠ 0 ∧ a = .delayStart n := by
  have wait (h : a ≠ .delayPoll) : s.ctx.wait = none := hw.resolve_right h
  have m := doAct_move a s
  rw [e] at m
  cases m with
  | write _ hp hr => obtain ⟨-, hc, -⟩ := regWrite_keeps hr; exact .inl (by rw [hc]; exact wait hp)
  | mask _ _ hp => exact .inl (wait hp)
  | read _ hr => exact .inl (hw.elim id hr)
  | delayBegins w hn => exact .inr ⟨_, hn, rfl⟩
  | delayEnds => exact .inl rfl
  | _ => exact .inl (wait Act.noConfusion)

/-- A poll that holds leaves the steps still to be made. -/
theorem doAct_stay_todo {s t : State} {a : Act} (e : doAct a s = .stay t) : t.ctx.todo = s.ctx.todo := by
  have m := doAct_move a s
  rw [e] at m
  cases m <;> rfl

/-- A poll that holds leaves wait registers only where it is a delay's. -/
theorem doAct_stay_wait {s t : State} {a : Act} (e : doAct a s = .stay t) (hw : s.ctx.wait = none ∨ a = .delayPoll) :
    t.ctx.wait = none ∨ a = .delayPoll := by
  have m := doAct_move a s
  rw [e] at m
  cases m with
  | delayWaits w => exact .inr rfl
  | holds r => exact hw

theorem regWrite_cyccnt {s t : State} {r : Reg} {w : Word} (h : r ≠ .dwtCyccnt) (e : s.regWrite r w = .ok t) :
    t.cyccnt = s.cyccnt := by
  cases r with
  | dwtCyccnt => exact absurd rfl h
  | sdcmr =>
    simp only [State.regWrite, State.writeSdcmr] at e
    split at e
    · cases e; rfl
    · split at e <;> cases e
      rfl
  | ahb3rstr | sdcr1 | sdcr2 | sdtr1 | sdtr2 | sdrtr => cases e; split <;> rfl
  | _ => cases e; rfl

/-- An act that does not write CYCCNT keeps it, whether it is made or holds. -/
theorem doAct_cyccnt {s t : State} {a : Act} (h : a.keepsCount = true) (e : (doAct a s).state? = some t) :
    t.cyccnt = s.cyccnt := by
  have m := doAct_move a s
  generalize doAct a s = r at e m
  cases m with
  | stop r => cases e
  | write hr _ hw => cases e; exact regWrite_cyccnt (hr h) hw
  | _ => cases e; rfl

theorem settle_todo (s : State) : s.settle.ctx.todo = s.ctx.todo := by
  unfold State.settle
  split
  · rename_i h; rw [h]; rfl
  · rfl

theorem settle_cyccnt (s : State) : s.settle.cyccnt = s.cyccnt := by
  unfold State.settle
  split <;> rfl

theorem enterPhase_cyccnt (s : State) (p : Option SeqPhase) : (s.enterPhase p).cyccnt = s.cyccnt := by
  cases p <;> rfl

theorem enterPhase_ctx (s : State) (p : Option SeqPhase) : (s.enterPhase p).ctx = s.ctx := by
  cases p <;> rfl

theorem mark_cyccnt (s : State) (r : Stop) : (s.mark r).cyccnt = s.cyccnt := by
  cases r <;> rfl

theorem mark_ctx (s : State) (r : Stop) : (s.mark r).ctx = s.ctx := by
  cases r <;> rfl

/-! ### Properties of the position, the parameters and the counter -/

/-- The parameters, the position, the activation and the counter are the same. -/
structure SamePosition (s t : State) : Prop where
  params : t.params = s.params
  ctx : t.ctx = s.ctx
  irq : t.irq = s.irq
  cyccnt : t.cyccnt = s.cyccnt

theorem fmcStep_position (s : State) : SamePosition s s.fmcStep := by
  unfold State.fmcStep
  split
  · split <;> exact ⟨rfl, rfl, rfl, rfl⟩
  · exact ⟨rfl, rfl, rfl, rfl⟩

theorem ltdcReloadStep_position (s : State) : SamePosition s s.ltdcReloadStep := by
  unfold State.ltdcReloadStep
  split <;> exact ⟨rfl, rfl, rfl, rfl⟩

theorem ltdcVBlankStep_position (s : State) : SamePosition s s.ltdcVBlankStep := by
  unfold State.ltdcVBlankStep
  split
  · split <;> exact ⟨rfl, rfl, rfl, rfl⟩
  · exact ⟨rfl, rfl, rfl, rfl⟩

/-- `P` speaks of the position, the activation, the parameters and the counter alone, and is kept by the moves of the running
code and of an activation. -/
structure KeptByMoves (P : State → Prop) : Prop where
  same : ∀ {s t}, P s → SamePosition s t → P t
  continueOp : ∀ {s}, P s → P s.continueOp
  beginSteps : ∀ {s l}, P s → StepsFor s l → P (s.beginSteps l)
  irqBegin : ∀ {s}, P s → s.irq = none →
    P { s with irq := some ⟨s.ctx, s.params.irqProgram, s.csStack⟩, ctx := Ctx.idle }
  irqItem : ∀ {s a i rest}, P s → s.irq = some a → a.rest = i :: rest → P { s with irq := some { a with rest := rest } }
  irqWrite : ∀ {s a r w rest t}, P s → s.irq = some a → a.rest = .regWrite r w :: rest →
    { s with irq := some { a with rest := rest } }.regWrite r w = .ok t → P t
  irqEnd : ∀ {s a}, P s → s.irq = some a → P { s with ctx := a.saved, irq := none }

theorem keptByOps_irq (q : Option Activation) : KeptByOps (fun s => s.irq = q) where
  ctx _ _ h := h
  read _ _ h := h
  write _ _ _ _ h e := by obtain ⟨-, -, hi⟩ := regWrite_keeps e; exact hi.trans h
  mask _ _ _ h := h
  seq _ _ _ h := h
  res _ _ h := h
  raise _ _ h := h
  refuse _ _ h := h
  newWatch _ _ _ _ _ _ _ h := h
  watch _ _ _ _ _ _ _ h := h

/-- The work of an interrupt step leaves the activation with the items still to run. -/
theorem IrqWork.irq {s v : State} {a b : Activation} (ha : s.irq = some a) (w : IrqWork s a b v) : v.irq = some b := by
  cases w with
  | goOn _ => exact (keptByOps_irq _).continueOp ha
  | nothing => exact ha
  | op _ e => exact (keptByOps_irq _).exec_next rfl e
  | read _ => rfl
  | write _ e => obtain ⟨-, -, hi⟩ := regWrite_keeps e; exact hi
  | fault f _ => rfl

section
variable {P : State → Prop}

theorem KeptByMoves.exec_next (k : KeptByMoves P) {i : Instr} {s t : State} (h : P s) (e : exec i s = .next t) : P t := by
  cases shape_of_exec e with
  | steps l hl => exact k.beginSteps h hl
  | _ => exact k.same h ⟨rfl, rfl, rfl, rfl⟩

theorem KeptByMoves.hostStep (k : KeptByMoves P) {s t : State} (h : P s) (e : hostStepWith exec s = .next t) : P t := by
  cases hostStep_move e with
  | idle => exact h
  | goOn _ => exact k.continueOp h
  | @interact p _ _ m =>
    have hp : P { s with program := p } := k.same h ⟨rfl, rfl, rfl, rfl⟩
    cases m with
    | exec e => exact k.exec_next hp e
    | _ => exact k.same hp ⟨rfl, rfl, rfl, rfl⟩

theorem KeptByMoves.work (k : KeptByMoves P) {s v : State} {a b : Activation} (h : P s) (ha : s.irq = some a)
    (w : IrqWork s a b v) : P v := by
  cases w with
  | goOn _ => exact k.continueOp h
  | nothing => exact h
  | op hr e => exact k.exec_next (k.irqItem h ha hr) e
  | read hr => exact k.same (k.irqItem h ha hr) ⟨rfl, rfl, rfl, rfl⟩
  | write hr e => exact k.irqWrite h ha hr e
  | fault f hr => exact k.same (k.irqItem h ha hr) ⟨rfl, rfl, rfl, rfl⟩

theorem KeptByMoves.irqStep (k : KeptByMoves P) {s t : State} (h : P s) (e : irqStepWith exec s = .next t) : P t := by
  cases irqStep_move e with
  | idle => exact h
  | begins hn _ => exact k.irqBegin h hn
  | @runs a b v ha w =>
    have hv := k.work h ha w
    rcases irqFinish_cases s b v with hf | hf | hf <;> rw [hf]
    · exact hv
    · exact k.irqEnd hv (w.irq ha)
    · exact k.same h ⟨rfl, rfl, rfl, rfl⟩

/-- What a step does to `P`: it is a TICK step, which moves the counter and nothing else that `P` speaks of, or it keeps `P`. -/
theorem KeptByMoves.step (k : KeptByMoves P) {s t : State} (h : P s) (e : step s = .next t) :
    s.ticksNext = false ∧ P t ∨ s.ticksNext = true ∧ ∃ u, P u ∧ t = { u with cyccnt := u.cyccnt + 1 } := by
  rcases step_cases e with ⟨rfl, ha⟩ | ⟨e, ha⟩
  · exact .inl ⟨by simp [State.ticksNext, ha], k.same h ⟨rfl, rfl, rfl, rfl⟩⟩
  obtain ⟨ms, d, hu⟩ := takeMover_state s
  have hp : P { s with sched := ms, draws := d } := k.same h ⟨rfl, rfl, rfl, rfl⟩
  rw [hu] at e
  cases hm : s.mover with
  | host => rw [hm] at e; exact .inl ⟨by simp [State.ticksNext, hm], k.hostStep hp e⟩
  | irq => rw [hm] at e; exact .inl ⟨by simp [State.ticksNext, hm], k.irqStep hp e⟩
  | tick =>
    rw [hm] at e; cases e
    have ht : s.ticksNext = s.counterEnabled := by simp [State.ticksNext, ha, hm]
    unfold State.tickStep
    split
    · exact .inr ⟨ht.trans ‹_›, _, hp, rfl⟩
    · rename_i hc; exact .inl ⟨ht.trans (Bool.eq_false_iff.2 hc), hp⟩
  | fmc => rw [hm] at e; cases e; exact .inl ⟨by simp [State.ticksNext, hm], k.same hp (fmcStep_position _)⟩
  | ltdcReload =>
    rw [hm] at e; cases e
    exact .inl ⟨by simp [State.ticksNext, hm], k.same hp (ltdcReloadStep_position _)⟩
  | ltdcVBlank =>
    rw [hm] at e; cases e
    exact .inl ⟨by simp [State.ticksNext, hm], k.same hp (ltdcVBlankStep_position _)⟩

end

end Sys2Proof.Machine
end

section
/-! PROOFS, family 10_state: the position invariant (R32, R38, R300) and the wraparound law (R31, R142, R143). -/

namespace Sys2Proof.Machine

/-! ### Positions -/

/-- A position as `ctxInv` asks of it. -/
structure PositionOk (c : Ctx) : Prop where
  idle : c.todo = [] → c = Ctx.idle
  setupStep : c.setupStep = c.todo.head?.bind HostStep.sub
  wait : c.wait = none ∨ c.todo.head?.map HostStep.act = some .delayPoll
  polled : delaysPolled c.todo = true

theorem positionOk_iff (c : Ctx) : (ctxOk c && delaysPolled c.todo) = true ↔ PositionOk c := by
  have hi : (!c.todo.isEmpty || c == Ctx.idle) = true ↔ (c.todo = [] → c = Ctx.idle) := by
    cases c.todo <;> simp
  simp only [ctxOk, Bool.and_eq_true, hi, beq_iff_eq, Bool.or_eq_true, Option.isNone_iff_eq_none]
  exact ⟨fun ⟨⟨⟨h₁, h₂⟩, h₃⟩, h₄⟩ => ⟨h₁, h₂, h₃, h₄⟩, fun ⟨h₁, h₂, h₃, h₄⟩ => ⟨⟨⟨h₁, h₂⟩, h₃⟩, h₄⟩⟩

theorem positionOk_idle : PositionOk Ctx.idle := ⟨fun _ => rfl, rfl, .inl rfl, rfl⟩

/-- `ctxInv` as propositions. -/
structure CtxInv (s : State) : Prop where
  running : PositionOk s.ctx
  preempted : ∀ a, s.irq = some a → PositionOk a.saved

theorem ctxInv_iff (s : State) : s.ctxInv = true ↔ CtxInv s := by
  unfold State.ctxInv
  rw [Bool.and_eq_true, positionOk_iff]
  constructor
  · rintro ⟨hc, ha⟩
    exact ⟨hc, fun a e => by rw [e] at ha; exact (positionOk_iff _).1 ha⟩
  · rintro ⟨hc, ha⟩
    refine ⟨hc, ?_⟩
    split
    · rfl
    · exact (positionOk_iff _).2 (ha _ ‹_›)

/-- After a host step the position is as it must be, if the wait registers are only there at a delay's poll. -/
theorem positionOk_settle {s : State} (hw : s.ctx.wait = none ∨ s.ctx.todo.head?.map HostStep.act = some .delayPoll)
    (hd : delaysPolled s.ctx.todo = true) : PositionOk s.settle.ctx := by
  unfold State.settle
  cases ht : s.ctx.todo with
  | nil => exact positionOk_idle
  | cons h rest =>
    rw [ht] at hw hd
    refine ⟨fun e => ?_, ?_, ?_, ?_⟩
    · simp [ht] at e
    · simp [ht]
    · simpa [ht] using hw
    · simpa [ht] using hd

/-- A host step keeps the position as it must be (R10, R161): a poll's wait registers end with it, and the delay that a step
begins is followed by its poll. -/
theorem positionOk_performStep {o s : State} {h : HostStep} (ho : PositionOk o.ctx)
    (hw : s.ctx.wait = none ∨ h.act = .delayPoll) (hd : delaysPolled (h :: s.ctx.todo) = true) :
    PositionOk (performStep o s h).ctx := by
  simp only [delaysPolled, Bool.and_eq_true] at hd
  obtain ⟨hh, hr⟩ := hd
  unfold performStep
  split
  · rename_i t e
    refine positionOk_settle ?_ ?_ <;> rw [enterPhase_ctx]
    · rcases doAct_done_wait e hw with ht | ⟨n, hn, ha⟩
      · exact .inl ht
      · rcases doAct_done_todo e with ht | ⟨hb, -⟩
        · rw [ha] at hh
          rw [ht]
          have hn' : (n == 0) = false := by simpa using hn
          exact .inr (by simpa only [hn', Bool.false_or, beq_iff_eq] using hh)
        · rw [ha] at hb; cases hb
    · rcases doAct_done_todo e with ht | ⟨-, ht⟩ <;> rw [ht]
      · exact hr
      · exact delaysPolled_append rfl hr
  · rename_i t e
    refine positionOk_settle ((doAct_stay_wait e hw).imp id fun ha => ?_) ?_
    · simp [ha]
    · simp only [delaysPolled, doAct_stay_todo e, hh, hr, Bool.and_self]
  · rw [mark_ctx]; exact ho

theorem continueOp_irq (s : State) : s.continueOp.irq = s.irq := (keptByOps_irq s.irq).continueOp rfl

theorem beginSteps_irq (s : State) (l : List HostStep) : (s.beginSteps l).irq = s.irq :=
  (keptByOps_irq s.irq).beginSteps l rfl

theorem CtxInv.continueOp {s : State} (h : CtxInv s) : CtxInv s.continueOp := by
  refine ⟨?_, fun a e => h.preempted a ((continueOp_irq s) ▸ e)⟩
  unfold State.continueOp
  split
  · exact h.running
  · rename_i g rest ht
    obtain ⟨-, -, hw, hd⟩ := h.running
    rw [ht] at hw hd
    exact positionOk_performStep h.running (hw.imp id fun e => by simpa using e) hd

theorem CtxInv.beginSteps {s : State} {l : List HostStep} (h : CtxInv s) (hl : StepsFor s l) : CtxInv (s.beginSteps l) := by
  refine ⟨?_, fun a e => h.preempted a ((beginSteps_irq s l) ▸ e)⟩
  have hd := hl.delaysPolled
  unfold State.beginSteps
  split
  · exact h.running
  · exact positionOk_performStep h.running (.inl rfl) hd

theorem CtxInv.keptByMoves : KeptByMoves CtxInv where
  same h e := ⟨e.ctx ▸ h.running, fun a ha => h.preempted a (e.irq ▸ ha)⟩
  continueOp h := h.continueOp
  beginSteps h hl := h.beginSteps hl
  irqBegin h _ := ⟨positionOk_idle, fun a ha => by cases ha; exact h.running⟩
  irqItem {_ a _ _} h ha _ := ⟨h.running, fun b hb => by cases hb; exact h.preempted a ha⟩
  irqWrite {_ a _ _ _ _} h ha _ e := by
    obtain ⟨-, hc, hi⟩ := regWrite_keeps e
    exact ⟨hc ▸ h.running, fun b hb => by rw [hi] at hb; cases hb; exact h.preempted a ha⟩
  irqEnd h ha := ⟨h.preempted _ ha, fun b hb => by cases hb⟩

/-- Settles O16: the moves of host and interrupt code keep the positions (`CtxInv.keptByMoves`), and a TICK step leaves them. -/
theorem stepKeepsPositionInvariant : Obligations.StepKeepsPositionInvariant := by
  intro s t h e
  rw [ctxInv_iff] at h ⊢
  rcases CtxInv.keptByMoves.step h e with ⟨-, ht⟩ | ⟨-, u, hu, rfl⟩
  · exact ht
  · exact ⟨hu.running, hu.preempted⟩

/-! ### The counter -/

/-- `countInv` as propositions, and where the counter stands. -/
structure CountAt (c : Word) (s : State) : Prop where
  todo : s.ctx.todo.all HostStep.keepsCount = true
  program : s.params.irqProgram.all IrqItem.keepsCount = true
  activation : ∀ a, s.irq = some a →
    a.saved.todo.all HostStep.keepsCount = true ∧ a.rest.all IrqItem.keepsCount = true
  count : s.cyccnt = c

theorem countInv_iff (s : State) : s.countInv = true ↔ CountAt s.cyccnt s := by
  simp only [State.countInv, Bool.and_eq_true]
  constructor
  · rintro ⟨⟨ht, hp⟩, ha⟩
    exact ⟨ht, hp, fun a e => by rw [e] at ha; simpa using ha, rfl⟩
  · rintro ⟨ht, hp, ha, -⟩
    refine ⟨⟨ht, hp⟩, ?_⟩
    split
    · rfl
    · simpa using ha _ ‹_›

/-- A host step that does not write CYCCNT leaves it, and steps that do not. -/
theorem performStep_keepsCount {o s : State} {h : HostStep} (ho : o.ctx.todo.all HostStep.keepsCount = true)
    (hs : (h :: s.ctx.todo).all HostStep.keepsCount = true) (hc : s.cyccnt = o.cyccnt) :
    (performStep o s h).ctx.todo.all HostStep.keepsCount = true ∧ (performStep o s h).cyccnt = o.cyccnt := by
  obtain ⟨ha, hr⟩ : h.act.keepsCount = true ∧ s.ctx.todo.all HostStep.keepsCount = true := by
    rwa [List.all_cons, Bool.and_eq_true] at hs
  unfold performStep
  split
  · rename_i t e
    rw [settle_todo, settle_cyccnt, enterPhase_ctx, enterPhase_cyccnt]
    refine ⟨?_, (doAct_cyccnt ha (t := t) (by rw [e]; rfl)).trans hc⟩
    rcases doAct_done_todo e with ht | ⟨-, ht⟩ <;> rw [ht]
    · exact hr
    · rw [List.all_append, hr]; rfl
  · rename_i t e
    rw [settle_todo, settle_cyccnt]
    refine ⟨?_, (doAct_cyccnt ha (t := t) (by rw [e]; rfl)).trans hc⟩
    rw [doAct_stay_todo e]; exact hs
  · rw [mark_ctx, mark_cyccnt]; exact ⟨ho, rfl⟩

theorem continueOp_params (s : State) : s.continueOp.params = s.params :=
  ((CodeKeeps.keptByOps s).continueOp (.refl s)).params

theorem beginSteps_params (s : State) (l : List HostStep) : (s.beginSteps l).params = s.params :=
  ((CodeKeeps.keptByOps s).beginSteps l (.refl s)).params

theorem CountAt.continueOp {c : Word} {s : State} (h : CountAt c s) : CountAt c s.continueOp := by
  obtain ⟨ht, hc⟩ : s.continueOp.ctx.todo.all HostStep.keepsCount = true ∧ s.continueOp.cyccnt = s.cyccnt := by
    unfold State.continueOp
    split
    · exact ⟨h.todo, rfl⟩
    · rename_i g rest ht
      exact performStep_keepsCount h.todo (ht ▸ h.todo) rfl
  exact ⟨ht, continueOp_params s ▸ h.program, fun a e => h.activation a (continueOp_irq s ▸ e), hc.trans h.count⟩

theorem CountAt.beginSteps {c : Word} {s : State} {l : List HostStep} (h : CountAt c s) (hl : StepsFor s l) :
    CountAt c (s.beginSteps l) := by
  obtain ⟨ht, hc⟩ : (s.beginSteps l).ctx.todo.all HostStep.keepsCount = true ∧ (s.beginSteps l).cyccnt = s.cyccnt := by
    have hs := hl.keepsCount
    unfold State.beginSteps
    split
    · exact ⟨h.todo, rfl⟩
    · exact performStep_keepsCount h.todo hs rfl
  exact ⟨ht, beginSteps_params s l ▸ h.program, fun a e => h.activation a (beginSteps_irq s l ▸ e), hc.trans h.count⟩

theorem CountAt.keptByMoves (c : Word) : KeptByMoves (CountAt c) where
  same h e := ⟨e.ctx ▸ h.todo, e.params ▸ h.program, fun a ha => h.activation a (e.irq ▸ ha), e.cyccnt.trans h.count⟩
  continueOp h := h.continueOp
  beginSteps h hl := h.beginSteps hl
  irqBegin h _ := ⟨rfl, h.program, fun a ha => by cases ha; exact ⟨h.todo, h.program⟩, h.count⟩
  irqItem {_ a _ _} h ha hr := by
    obtain ⟨hs, hi⟩ := h.activation a ha
    rw [hr, List.all_cons, Bool.and_eq_true] at hi
    obtain ⟨hi, hrest⟩ := hi
    exact ⟨h.todo, h.program, fun b hb => by cases hb; exact ⟨hs, hrest⟩, h.count⟩
  irqWrite {_ a r _ _ _} h ha hr e := by
    obtain ⟨hs, hi⟩ := h.activation a ha
    rw [hr, List.all_cons, Bool.and_eq_true] at hi
    obtain ⟨hi, hrest⟩ := hi
    have hne : r ≠ .dwtCyccnt := by rintro rfl; exact absurd hi Bool.false_ne_true
    obtain ⟨hk, hc, hq⟩ := regWrite_keeps e
    exact ⟨hc ▸ h.todo, hk.params ▸ h.program, fun b hb => by rw [hq] at hb; cases hb; exact ⟨hs, hrest⟩,
      (regWrite_cyccnt hne e).trans h.count⟩
  irqEnd {_ a} h ha := by
    obtain ⟨hs, -⟩ := h.activation a ha
    exact ⟨hs, h.program, (fun b hb => by cases hb), h.count⟩

/-- One step keeps what is still to run free of raw writes of CYCCNT, and moves the counter by one exactly if it is a TICK
step (R31). -/
theorem CountAt.step {c : Word} {s t : State} (h : CountAt c s) (e : step s = .next t) :
    CountAt (c + if s.ticksNext then 1 else 0) t := by
  rcases (CountAt.keptByMoves c).step h e with ⟨hn, ht⟩ | ⟨hn, u, hu, rfl⟩
  · simpa [hn] using ht
  · exact ⟨hu.todo, hu.program, hu.activation, by simp [hn, hu.count]⟩

/-- A run that answers a next state begins with a step that does. -/
theorem run_succ_next (M : Host.Core) {k : Nat} {s t : M.State} (h : M.run (k + 1) s = .next t) :
    ∃ u, M.step s = .next u ∧ M.run k u = .next t := by
  unfold Host.Core.run at h
  split at h
  · rename_i u hu; exact ⟨u, hu, h⟩
  · cases h
  · cases h

theorem runFor_succ_next {k : Nat} {s t : State} (h : runFor (k + 1) s = .next t) :
    ∃ u, Machine.step s = .next u ∧ runFor k u = .next t :=
  run_succ_next core h

theorem ticksIn_succ {k : Nat} {s u : State} (e : Machine.step s = .next u) :
    ticksIn (k + 1) s = (if s.ticksNext then 1 else 0) + ticksIn k u := by
  simp only [ticksIn, e]

/-- Over a run the counter moves by the number of its TICK steps (R143). -/
theorem CountAt.runFor {c : Word} {s t : State} {k : Nat} (h : CountAt c s) (e : runFor k s = .next t) :
    CountAt (c + BitVec.ofNat 32 (ticksIn k s)) t := by
  induction k generalizing c s with
  | zero => cases e; simpa [ticksIn] using h
  | succ k ih =>
    obtain ⟨u, hu, e⟩ := runFor_succ_next e
    have := ih (h.step hu) e
    rw [ticksIn_succ hu, BitVec.ofNat_add, ← BitVec.add_assoc]
    cases ht : s.ticksNext <;> simpa [ht] using this

/-- Settles O20: the count is followed along the run (`CountAt.runFor`), and the difference of the two readings is the number
of TICK steps modulo 2^32. -/
theorem wraparoundLaw : Obligations.WraparoundLaw := by
  intro s t k h e
  have ht := ((countInv_iff s).1 h).runFor e
  refine ⟨(countInv_iff t).2 (ht.count ▸ ht), ht.count, BitVec.ofNat 32 (ticksIn k s), ?_, BitVec.toNat_ofNat _ _, ?_⟩
  · have hd : t.cyccnt - s.cyccnt = BitVec.ofNat 32 (ticksIn k s) := by
      rw [ht.count, BitVec.add_comm, BitVec.add_sub_cancel]
    rw [← hd]; rfl
  · rw [BitVec.toNat_ofNat]
    exact ⟨fun he => he ▸ Nat.mod_lt _ (by decide), Nat.mod_eq_of_lt⟩

end Sys2Proof.Machine
end

section
/-! PROOFS, family 10_state: the state after reset (R57), the StopWatch records (R39) and interrupt activations (R344). -/

namespace Sys2Proof.Machine

/-! ### The state after reset (R57) -/

/-- Settles O12: every element is evaluated; no StopWatch is there, and the two layers are alike. -/
theorem resetValues : Obligations.ResetValues := by
  intro c
  refine ⟨rfl, rfl, rfl, rfl, rfl, rfl, rfl, rfl, rfl, rfl, fun _ => rfl, rfl, rfl, rfl, rfl, rfl, rfl, rfl, rfl, rfl, rfl,
    rfl, rfl, rfl, rfl, rfl, rfl, rfl, rfl, rfl, rfl, rfl, rfl, ?layers, rfl, rfl⟩
  intro l hl r
  rw [List.eq_of_mem_replicate hl]
  exact ⟨by cases r <;> rfl, rfl⟩

/-- Settles O13. The register invariant is `RegInv.reset`; the others speak of lists that are empty at reset, but for the
interrupt program. -/
theorem resetMeetsInvariants : Obligations.ResetMeetsInvariants := by
  intro p n c
  refine ⟨(regInv_iff _).2 (RegInv.reset p n c), rfl, (ctxInv_iff _).2 ⟨positionOk_idle, fun _ e => nomatch e⟩, rfl, ?_⟩
  intro hp
  exact (countInv_iff _).2 ⟨rfl, hp, (fun _ e => nomatch e), rfl⟩

/-! ### StopWatch records (R39) -/

theorem watch_setWatch (s : State) (h : Word) (w : StopWatch) : (s.setWatch h w).watch h = some w :=
  assocGet_assocSet _ _ _

theorem watch_setWatch_of_ne (s : State) {h g : Word} (w : StopWatch) (hg : g ≠ h) :
    (s.setWatch h w).watch g = s.watch g :=
  assocGet_assocSet_of_ne (fun e => hg (BitVec.eq_of_toNat_eq e)) _ _

section
variable {s : State} {h : Word}

theorem hzOk_of_ne_zero {f : Word} (hf : f ≠ 0) : hzOk f = true := by
  simpa [hzOk] using hf

theorem swNew_of_free {cap freq : Word} (hf : freq ≠ 0) (hc : 2 ≤ cap.toNat) (hw : s.watch h = none) :
    exec (.swNew h cap freq) s = .next (s.sample.setWatch h (newWatch cap freq s.cyccnt)) := by
  simp [exec, execSwNew, hzOk_of_ne_zero hf, Nat.not_lt.2 hc, hw]

theorem swNew_of_small {cap : Word} (freq : Word) (hc : cap.toNat < 2) :
    exec (.swNew h cap freq) s = .next (s.refuse .badOperand) := by
  simp [exec, execSwNew, hc]

theorem swNew_of_live {cap freq : Word} (hf : freq ≠ 0) (hc : 2 ≤ cap.toNat) (hw : (s.watch h).isSome) :
    exec (.swNew h cap freq) s = .next (s.refuse .handleInUse) := by
  obtain ⟨w, hw⟩ := Option.isSome_iff_exists.1 hw
  simp [exec, execSwNew, hzOk_of_ne_zero hf, Nat.not_lt.2 hc, hw]

theorem swLap_of_watch {w : StopWatch} (hw : s.watch h = some w) :
    exec (.swLap h) s = .next (s.sample.setWatch h (w.lap s.cyccnt)) := by
  simp [exec, execSwLap, hw]

theorem swReset_of_watch {w : StopWatch} (hw : s.watch h = some w) :
    exec (.swReset h) s = .next (s.sample.setWatch h (w.restart s.cyccnt)) := by
  simp [exec, execSwReset, hw]

/-- An unknown handle is refused, whatever is asked of it (R181 to R185). -/
theorem watchOps_of_unknown (hw : s.watch h = none) :
    exec (.swLap h) s = .next (s.refuse .noSuchHandle) ∧
      (∀ n, exec (.swLapTime h n) s = .next (s.refuse .noSuchHandle)) ∧
      exec (.swReset h) s = .next (s.refuse .noSuchHandle) ∧
      exec (.swIterNext h) s = .next (s.refuse .noSuchHandle) := by
  simp [exec, execSwLap, execSwLapTime, execSwReset, execSwIterNext, hw]

end

/-- Settles O27: the three operations and their refusals, one lemma each; a record is found under its own handle alone. -/
theorem stopWatchRecords : Obligations.StopWatchRecords := fun s h =>
  ⟨fun _ _ hf hc hw => swNew_of_free hf hc hw, fun _ hw => swLap_of_watch hw, fun _ hw => swReset_of_watch hw,
    fun w => ⟨watch_setWatch s h w, fun _ hg => watch_setWatch_of_ne s w hg⟩, watchOps_of_unknown,
    fun _ freq hc => swNew_of_small freq hc, fun _ _ hc hf hw => swNew_of_live hf hc hw⟩

/-! ### Interrupt activations (R344) -/

section
variable {s t : State} {a : Activation}

/-- A step that is not the activation's last, or that marks, stands. -/
theorem irqFinish_goesOn (h : t.stopped = true ∨ t.ctx.todo ≠ [] ∨ a.rest ≠ []) : irqFinish s a t = t := by
  unfold irqFinish
  rcases h with h | h | h <;> simp [h]

/-- After its last step the host resumes where it was preempted (R347). -/
theorem irqFinish_resumes (hs : t.stopped = false) (ht : t.ctx.todo = []) (hr : a.rest = []) (hc : t.csStack = a.csStart) :
    irqFinish s a t = { t with ctx := a.saved, irq := none } := by
  simp [irqFinish, hs, ht, hr, hc]

/-- A last step that leaves another CS_STACK is refused (R344). -/
theorem irqFinish_unbalanced (hs : t.stopped = false) (ht : t.ctx.todo = []) (hr : a.rest = [])
    (hc : t.csStack ≠ a.csStart) : irqFinish s a t = s.refuse .unbalancedCriticalSection := by
  simp [irqFinish, hs, ht, hr, hc]

theorem irqStep_goOn (hs : s.stopped = false) (ha : s.irq = some a) (ht : s.ctx.todo ≠ []) :
    irqStepWith exec s = .next (irqFinish s a s.continueOp) := by
  obtain ⟨h, rest, hcons⟩ := List.exists_cons_of_ne_nil ht
  simp [irqStepWith, irqRunWith, hs, ha, hcons]

theorem irqStep_item {i : IrqItem} {rest : List IrqItem} (hs : s.stopped = false) (ha : s.irq = some a)
    (ht : s.ctx.todo = []) (hr : a.rest = i :: rest)
    (e : irqItemWith exec i { s with irq := some { a with rest := rest } } = .next t) :
    irqStepWith exec s = .next (irqFinish s { a with rest := rest } t) := by
  simp [irqStepWith, irqRunWith, hs, ha, ht, hr, e]

/-- An activation begins only between two steps with interrupts unmasked, and keeps the host's position. -/
theorem irqStep_begins (hs : s.stopped = false) (hi : s.irq = none) (hm : s.imask = false) (hp : s.params.irqProgram ≠ []) :
    irqStepWith exec s =
      .next { s with irq := some ⟨s.ctx, s.params.irqProgram, s.csStack⟩, ctx := Ctx.idle } := by
  simp [irqStepWith, State.irqBegin, State.irqMayBegin, hs, hi, hm, hp]

/-- While interrupts are masked none begins (R348). -/
theorem irqStep_masked (hi : s.irq = none) (hm : s.imask = true) : irqStepWith exec s = .next s := by
  simp [irqStepWith, State.irqBegin, State.irqMayBegin, hi, hm]

/-- While an activation is in progress the host has no step (R344). -/
theorem hostStep_preempted (hi : s.irq ≠ none) : hostStepWith exec s = .next s := by
  obtain ⟨a, ha⟩ := Option.ne_none_iff_exists'.1 hi
  simp [hostStepWith, State.hostEnabled, ha]

theorem keptByHost_irq (q : Option Activation) : KeptByHost (fun s => s.irq = q) where
  toKeptByOps := keptByOps_irq q
  program _ _ h := h
  record _ _ h := h
  names _ _ _ h := h
  store _ _ _ h := h

/-- No step of any agent begins an activation while interrupts are masked. -/
theorem agentStep_masked {m : Mover} (hi : s.irq = none) (hm : s.imask = true) (e : agentStepWith exec m s = .next t) :
    t.irq = none := by
  cases m with
  | host => exact (keptByHost_irq none).hostStep hi e
  | tick =>
    cases e
    unfold State.tickStep
    split <;> exact hi
  | fmc => cases e; exact (fmcStep_position s).irq.trans hi
  | ltdcReload => cases e; exact (ltdcReloadStep_position s).irq.trans hi
  | ltdcVBlank => cases e; exact (ltdcVBlankStep_position s).irq.trans hi
  | irq =>
    cases (irqStep_masked hi hm).symm.trans e
    exact hi

theorem step_masked (hi : s.irq = none) (hm : s.imask = true) (e : step s = .next t) : t.irq = none := by
  rcases step_cases e with ⟨rfl, -⟩ | ⟨e, -⟩
  · exact hi
  · obtain ⟨ms, d, hu⟩ := takeMover_state s
    rw [hu] at e
    exact agentStep_masked (s := { s with sched := ms, draws := d }) hi hm e

/-- A raw access of interrupt code to a register with a place in State is one access (R344). -/
theorem irqItem_regRead {r : Reg} (h : s.regPresent r = true) : irqItemWith exec (.regRead r) s = .next (s.regRead r) := by
  simp [irqItemWith, State.rawRead, h]

theorem irqItem_regWrite {r : Reg} {w : Word} (h : s.regPresent r = true) (e : s.regWrite r w = .ok t) :
    irqItemWith exec (.regWrite r w) s = .next t := by
  simp [irqItemWith, State.rawWrite, h, e]

theorem irqItem_regWrite_fault {r : Reg} {w : Word} {f : Fault} (h : s.regPresent r = true)
    (e : s.regWrite r w = .error f) : irqItemWith exec (.regWrite r w) s = .next (s.raiseFault f) := by
  simp [irqItemWith, State.rawWrite, h, e]

end

/-- Settles O59. A step of an activation is its work and then `irqFinish`; the clauses are the three things that the end of a
step can make of the work, for a step that begins an item and for one that goes on with an operation. -/
theorem interruptActivations : Obligations.InterruptActivations := by
  refine ⟨fun s => ⟨irqStep_begins, fun hi hm => ⟨irqStep_masked hi hm, fun t e => step_masked hi hm e⟩,
    hostStep_preempted⟩, ?lastItem, ?item, ?access, ?goOn⟩
  case lastItem =>
    intro s t a i hs ha ht hr e hu hd
    have hstep := irqStep_item hs ha ht hr e
    exact ⟨fun hc => hstep.trans (congrArg _ (irqFinish_resumes hu hd rfl hc)),
      fun hc => hstep.trans (congrArg _ (irqFinish_unbalanced hu hd rfl hc))⟩
  case item =>
    intro s t a i rest hs ha ht hr e h
    exact (irqStep_item hs ha ht hr e).trans (congrArg _ (irqFinish_goesOn h))
  case access =>
    exact fun s r w => ⟨fun _ => rfl, fun h => ⟨irqItem_regRead h, fun _ e => irqItem_regWrite h e,
      fun _ e => irqItem_regWrite_fault h e⟩⟩
  case goOn =>
    intro s a hs ha ht
    have hstep := irqStep_goOn hs ha ht
    exact ⟨fun h => hstep.trans (congrArg _ (irqFinish_goesOn h)), fun hu hd hr =>
      ⟨fun hc => hstep.trans (congrArg _ (irqFinish_resumes hu hd hr hc)),
        fun hc => hstep.trans (congrArg _ (irqFinish_unbalanced hu hd hr hc))⟩⟩

end Sys2Proof.Machine
end

section
/-! PROOFS, family 20_memory: the data that only the host's own accesses and the StopWatch operations change (10_state.md R39;
20_memory.md R81): the SDRAM bytes, the StopWatches and the host's names. Operations leave the SDRAM, the names, the program
and the schedule alone, and every step keeps the canonical forms. -/

namespace Sys2Proof.Machine

/-! ### What register writes and operations leave alone -/

/-- What no host step of an operation changes, beside what `CodeKeeps` says. -/
structure OpKeeps (s t : State) : Prop where
  sdram : t.sdram = s.sdram
  names : t.names = s.names
  program : t.program = s.program
  sched : t.sched = s.sched

theorem OpKeeps.refl (s : State) : OpKeeps s s := ⟨rfl, rfl, rfl, rfl⟩

theorem OpKeeps.trans {s t u : State} (h : OpKeeps s t) (g : OpKeeps t u) : OpKeeps s u :=
  ⟨g.sdram.trans h.sdram, g.names.trans h.names, g.program.trans h.program, g.sched.trans h.sched⟩

/-- A register write changes no SDRAM byte, no name, no StopWatch, and not what is still to come. -/
theorem regWrite_opKeeps {s t : State} {r : Reg} {w : Word} (e : s.regWrite r w = .ok t) :
    OpKeeps s t ∧ t.watches = s.watches := by
  cases r with
  | sdcmr =>
    simp only [State.regWrite, State.writeSdcmr] at e
    split at e
    · cases e; exact ⟨.refl _, rfl⟩
    · split at e <;> cases e
      exact ⟨⟨rfl, rfl, rfl, rfl⟩, rfl⟩
  | ahb3rstr | sdcr1 | sdcr2 | sdtr1 | sdtr2 | sdrtr => cases e; split <;> exact ⟨⟨rfl, rfl, rfl, rfl⟩, rfl⟩
  | _ => cases e; exact ⟨⟨rfl, rfl, rfl, rfl⟩, rfl⟩

theorem OpKeeps.keptByOps (s : State) : KeptByOps (OpKeeps s) where
  ctx _ _ h := { h with }
  read _ _ h := { h with }
  write _ _ _ _ h e := h.trans (regWrite_opKeeps e).1
  mask _ _ _ h := { h with }
  seq _ _ _ h := { h with }
  res _ _ h := { h with }
  raise _ _ h := { h with }
  refuse _ _ h := { h with }
  newWatch _ _ _ _ _ _ _ h := { h with }
  watch _ _ _ _ _ _ _ h := { h with }

/-- A host step of an operation: its first, or a later one. -/
def OpStep (s t : State) : Prop := (∃ i, exec i s = .next t) ∨ t = s.continueOp

/-- What every primitive change keeps, every host step of an operation keeps. -/
theorem KeptByOps.opStep {P : State → Prop} (k : KeptByOps P) {s t : State} (h : P s) (e : OpStep s t) : P t := by
  rcases e with ⟨i, e⟩ | rfl
  · exact k.exec_next h e
  · exact k.continueOp h

theorem KeptByMoves.opStep {P : State → Prop} (k : KeptByMoves P) {s t : State} (h : P s) (e : OpStep s t) : P t := by
  rcases e with ⟨i, e⟩ | rfl
  · exact k.exec_next h e
  · exact k.continueOp h

/-! ### StopWatches (R39, R183) -/

/-- `watchOk` as propositions; of the slots up to the cursor, that none of them is unwritten. -/
structure WatchOk (w : StopWatch) : Prop where
  cap : 2 ≤ w.cap
  slots : w.samples.length = w.cap
  cursor : w.cursor + 1 ≤ w.cap
  written : ∀ i ≤ w.cursor, w.samples[i]? ≠ some none
  freq : w.freq ≠ 0
  iter : 1 ≤ w.it

/-- The first `n` slots are written exactly if none of them is unwritten. -/
theorem take_all_isSome {α : Type} (l : List (Option α)) (n : Nat) :
    (l.take n).all Option.isSome = true ↔ ∀ i < n, l[i]? ≠ some none := by
  simp only [List.all_eq_true, List.mem_iff_getElem?, List.getElem?_take]
  constructor
  · intro h i hi e
    exact absurd (h none ⟨i, by simp [hi, e]⟩) (by simp)
  · rintro h x ⟨i, e⟩
    split at e
    · rename_i hi
      exact Option.isSome_iff_ne_none.2 fun hx => h i hi (hx ▸ e)
    · cases e

theorem watchOk_iff (w : StopWatch) : watchOk w = true ↔ WatchOk w := by
  simp only [watchOk, Bool.and_eq_true, decide_eq_true_eq, beq_iff_eq, bne_iff_ne, take_all_isSome, Nat.lt_succ_iff]
  exact ⟨fun ⟨⟨⟨⟨⟨h₁, h₂⟩, h₃⟩, h₄⟩, h₅⟩, h₆⟩ => ⟨h₁, h₂, h₃, h₄, h₅, h₆⟩,
    fun ⟨h₁, h₂, h₃, h₄, h₅, h₆⟩ => ⟨⟨⟨⟨⟨h₁, h₂⟩, h₃⟩, h₄⟩, h₅⟩, h₆⟩⟩

/-- A new session has slot 0 written and stands at it (R180). -/
theorem watchOk_newWatch {cap freq : Word} (c : Word) (hf : freq ≠ 0) (hc : 2 ≤ cap.toNat) :
    WatchOk (newWatch cap freq c) where
  cap := hc
  slots := by simp only [newWatch, List.length_cons, List.length_replicate]; omega
  cursor := by simp only [newWatch]; omega
  written i hi := by
    obtain rfl : i = 0 := Nat.le_zero.1 hi
    simp [newWatch]
  freq := hf
  iter := Nat.le_refl 1

/-- Writing a slot leaves no slot below it unwritten that was written, nor itself. -/
theorem set_written {α : Type} {l : List (Option α)} {k i : Nat} (c : α) (h : i ≠ k → l[i]? ≠ some none) :
    (l.set k (some c))[i]? ≠ some none := by
  rw [List.getElem?_set]
  split
  · split <;> simp
  · exact h (Ne.symm ‹_›)

theorem StopWatch.lap_cursor_le (w : StopWatch) (c : Word) : (w.lap c).cursor ≤ w.cursor + 1 := by
  simp only [StopWatch.lap]
  split <;> omega

/-- The lap's slot is the next one, or the last again (R181); the slots below it were written. -/
theorem WatchOk.lap {w : StopWatch} (h : WatchOk w) (c : Word) : WatchOk (w.lap c) where
  cap := h.cap
  slots := by simpa [StopWatch.lap] using h.slots
  cursor := by
    have := h.cursor
    simp only [StopWatch.lap]
    split <;> omega
  written i hi := by
    have := w.lap_cursor_le c
    exact set_written (k := (w.lap c).cursor) c fun hne => h.written i (by omega)
  freq := h.freq
  iter := h.iter

/-- A restarted session stands at slot 0, which it writes (R184). -/
theorem WatchOk.restart {w : StopWatch} (h : WatchOk w) (c : Word) : WatchOk (w.restart c) where
  cap := h.cap
  slots := by simpa [StopWatch.restart] using h.slots
  cursor := by have := h.cap; simp only [StopWatch.restart]; omega
  written i hi := set_written c fun hne => absurd (Nat.le_zero.1 hi) hne
  freq := h.freq
  iter := Nat.le_refl 1

/-- The iterator moves on or stays; nothing else changes (R185). -/
theorem WatchOk.advance {w : StopWatch} (h : WatchOk w) : WatchOk w.advance := by
  unfold StopWatch.advance
  split
  · exact { h with iter := Nat.le_add_left 1 w.it }
  · exact h

/-! ### The data invariant -/

/-- `dataInv` as propositions. -/
structure DataInv (s : State) : Prop where
  sdram : memoryWf s.sdram = true
  watches : assocWf s.watches = true
  names : assocWf s.names = true
  eachWatch : s.watches.all (fun p => watchOk p.2) = true

theorem dataInv_iff (s : State) : s.dataInv = true ↔ DataInv s := by
  simp only [State.dataInv, Bool.and_eq_true]
  exact ⟨fun ⟨⟨⟨h₁, h₂⟩, h₃⟩, h₄⟩ => ⟨h₁, h₂, h₃, h₄⟩, fun ⟨h₁, h₂, h₃, h₄⟩ => ⟨⟨⟨h₁, h₂⟩, h₃⟩, h₄⟩⟩

/-- The SDRAM bytes, the StopWatches and the names are the same. -/
structure SameData (s t : State) : Prop where
  sdram : t.sdram = s.sdram
  watches : t.watches = s.watches
  names : t.names = s.names

theorem DataInv.same {s t : State} (h : DataInv s) (e : SameData s t) : DataInv t where
  sdram := e.sdram ▸ h.sdram
  watches := e.watches ▸ h.watches
  names := e.names ▸ h.names
  eachWatch := e.watches ▸ h.eachWatch

theorem regWrite_data {s t : State} {r : Reg} {w : Word} (e : s.regWrite r w = .ok t) : SameData s t := by
  obtain ⟨h, hw⟩ := regWrite_opKeeps e
  exact ⟨h.sdram, hw, h.names⟩

theorem tickStep_data (s : State) : SameData s s.tickStep := by
  unfold State.tickStep
  split <;> exact ⟨rfl, rfl, rfl⟩

theorem fmcStep_data (s : State) : SameData s s.fmcStep := by
  unfold State.fmcStep
  split
  · split <;> exact ⟨rfl, rfl, rfl⟩
  · exact ⟨rfl, rfl, rfl⟩

theorem ltdcReloadStep_data (s : State) : SameData s s.ltdcReloadStep := by
  unfold State.ltdcReloadStep
  split <;> exact ⟨rfl, rfl, rfl⟩

theorem ltdcVBlankStep_data (s : State) : SameData s s.ltdcVBlankStep := by
  unfold State.ltdcVBlankStep
  split
  · split <;> exact ⟨rfl, rfl, rfl⟩
  · exact ⟨rfl, rfl, rfl⟩

/-- Storing a StopWatch that is as it must be keeps the invariant. -/
theorem DataInv.setWatch {s : State} (h : DataInv s) (hd : Word) {w : StopWatch} (hw : WatchOk w) :
    DataInv (s.setWatch hd w) :=
  { h with
    watches := assocWf_assocSet _ _ _ h.watches
    eachWatch := assocSet_all _ _ _ _ ((watchOk_iff w).2 hw) h.eachWatch }

/-- A StopWatch of the state is as it must be. -/
theorem DataInv.watchOk {s : State} (h : DataInv s) {hd : Word} {w : StopWatch} (hw : s.watch hd = some w) : WatchOk w :=
  (watchOk_iff w).1 (List.all_eq_true.1 h.eachWatch _ (mem_of_assocGet hw))

/-- Only a stored byte, a StopWatch and a name change the data; each of the three keeps the canonical form. -/
theorem DataInv.keptByAll : KeptByAll DataInv where
  ctx _ _ h := { h with }
  read _ _ h := { h with }
  write _ _ _ _ h e := h.same (regWrite_data e)
  mask _ _ _ h := { h with }
  seq _ _ _ h := { h with }
  res _ _ h := { h with }
  raise _ _ h := { h with }
  refuse _ _ h := { h with }
  newWatch _ hd _ _ c hf hc h := h.setWatch hd (watchOk_newWatch c hf hc)
  watch _ hd w _ c hw hnew h := by
    have ok : WatchOk w := h.watchOk hw
    rcases hnew with rfl | rfl | rfl
    · exact h.setWatch hd (ok.lap c)
    · exact h.setWatch hd (ok.restart c)
    · exact h.setWatch hd ok.advance
  turn _ _ _ h := { h with }
  program _ _ h := { h with }
  irq _ _ h := { h with }
  record _ _ h := { h with }
  names _ k v h := { h with names := assocWf_assocSet k v _ h.names }
  store s a bs h := { h with sdram := memoryWf_sdramStore s bs _ a h.sdram }
  tick s h := h.same (tickStep_data s)
  fmc s h := h.same (fmcStep_data s)
  reload s h := h.same (ltdcReloadStep_data s)
  vblank s h := h.same (ltdcVBlankStep_data s)

/-! ### The obligations -/

/-- Settles O15: every primitive change keeps the data invariant (`DataInv.keptByAll`), so every step does. -/
theorem stepKeepsDataInvariant : Obligations.StepKeepsDataInvariant := by
  intro s t h e
  rw [dataInv_iff] at h ⊢
  exact DataInv.keptByAll.step h e

/-- Settles O11. Each part is kept by every host step of an operation: the SDRAM and what is still to come by `OpKeeps`, the
outputs by `CodeKeeps`, the activation, and the counter under `countInv`. -/
theorem operationsKeepMemory : Obligations.OperationsKeepMemory := by
  intro s t (e : OpStep s t)
  obtain ⟨sdram, -, program, sched⟩ := (OpKeeps.keptByOps s).opStep (.refl s) e
  obtain ⟨params, sdramLog, ltdcLog, active⟩ := (CodeKeeps.keptByOps s).opStep (.refl s) e
  have irq : t.irq = s.irq := (keptByOps_irq s.irq).opStep rfl e
  have count (h : s.countInv = true) : t.cyccnt = s.cyccnt :=
    ((CountAt.keptByMoves s.cyccnt).opStep ((countInv_iff s).1 h) e).count
  have bytes (a : Nat) : t.sdramByte a = s.sdramByte a := by simp only [State.sdramByte, sdram]
  exact ⟨bytes, sdram, count, sdramLog, ltdcLog, params, program, sched, irq, active⟩

end Sys2Proof.Machine
end

section
/-! PROOFS, family 20_memory: what an access to an address range reaches (20_memory.md R81, R82; log 14), and what the windows
hold after a write (log 13). `busTarget` is decided once for each kind of range; reads and writes of the bus follow from it. -/

namespace Sys2Proof.Machine

/-! ### Ranges of bytes -/

theorem allBytes_iff (p : Nat → Bool) (a n : Nat) :
    allBytes p a n = true ↔ ∀ x, a ≤ x → x < a + n → p x = true := by
  induction n generalizing a with
  | zero => exact ⟨fun _ x _ _ => by omega, fun _ => rfl⟩
  | succ n ih =>
    simp only [allBytes, Bool.and_eq_true, ih]
    constructor
    · rintro ⟨ha, hr⟩ x hx hn
      rcases Nat.eq_or_lt_of_le hx with rfl | hx
      · exact ha
      · exact hr x hx (by omega)
    · exact fun h => ⟨h a (by omega) (by omega), fun x hx hn => h x (by omega) (by omega)⟩

theorem allBytes_eq_false {p : Nat → Bool} {a n x : Nat} (ha : a ≤ x) (hn : x < a + n) (hp : p x = false) :
    allBytes p a n = false := by
  by_contra h
  rw [Bool.not_eq_false, allBytes_iff] at h
  rw [h x ha hn] at hp
  cases hp

/-! ### Live bytes (R81, R383) -/

/-- 256 MiB. -/
theorem sdramWindowBytes_eq : Config.sdramWindowBytes = 2 ^ 28 := rfl

section
variable (s : State) (a : Nat)

theorem inBank1_iff : s.inBank1 a = true ↔
    s.params.regMap.sdramBank1 ≤ a ∧ a < s.params.regMap.sdramBank1 + 2 ^ 28 ∧ a < 2 ^ 32 := by
  simp only [State.inBank1, Bool.and_eq_true, decide_eq_true_eq, and_assoc]
  rw [sdramWindowBytes_eq]

theorem inBank2_iff : s.inBank2 a = true ↔
    s.params.regMap.sdramBank2 ≤ a ∧ a < s.params.regMap.sdramBank2 + 2 ^ 28 ∧ a < 2 ^ 32 := by
  simp only [State.inBank2, Bool.and_eq_true, decide_eq_true_eq, and_assoc]
  rw [sdramWindowBytes_eq]

theorem sdramUp_iff : s.sdramUp = true ↔ s.seqPhase = .live ∧ s.seqResetAfterLive = false := by
  simp [State.sdramUp]

theorem bank1Selected_iff : s.bank1Selected = true ↔ s.seqBank = some .bankA ∨ s.seqBank = some .bothBanks := by
  simp [State.bank1Selected]

theorem bank2Selected_iff : s.bank2Selected = true ↔ s.seqBank = some .bankB ∨ s.seqBank = some .bothBanks := by
  simp [State.bank2Selected]

/-- A bank is live if it is up and selected, so a byte is live if the SDRAM is up and a bank that has it is selected. -/
theorem byteLive_iff : s.byteLive a = true ↔ s.seqPhase = .live ∧ s.seqResetAfterLive = false ∧
    (s.inBank1 a = true ∧ (s.seqBank = some .bankA ∨ s.seqBank = some .bothBanks) ∨
      s.inBank2 a = true ∧ (s.seqBank = some .bankB ∨ s.seqBank = some .bothBanks)) := by
  simp only [State.byteLive, State.bank1Live, State.bank2Live, Bool.or_eq_true, Bool.and_eq_true, sdramUp_iff,
    bank1Selected_iff, bank2Selected_iff]
  tauto

end

/-! ### What an access reaches (R81, R82; log 14) -/

section
variable {s : State} {a n : Nat}

/-- The register at an address has its bytes there. -/
theorem touchesReg_of_regAt {r : Reg} (h : s.regAt a = some r) (hn : 0 < n) : s.touchesReg a n = true := by
  obtain ⟨⟨q, b⟩, hf, -⟩ := Option.map_eq_some_iff.1 h
  have hb : b = a := by simpa using List.find?_some hf
  exact List.any_eq_true.2 ⟨(q, b), List.mem_of_find?_eq_some hf, by simp only [Bool.and_eq_true, decide_eq_true_eq]; omega⟩

theorem busTarget_register {r : Reg} (h : s.regAt a = some r) : s.busTarget a 4 = .register r := by
  simp [State.busTarget, h]

/-- An access that is not the four bytes of a register is judged by the registers it touches, then by the windows. -/
theorem busTarget_of_no_register (h : n ≠ 4 ∨ s.regAt a = none) : s.busTarget a n =
    if s.touchesReg a n && n != 0 then .partRegister
    else if !allBytes (fun x => !s.byteDead x) a n then .deadWindow
    else if allBytes s.byteLive a n then .window
    else .outside := by
  have hr : (if n = 4 then s.regAt a else none) = none := by
    rcases h with h | h <;> simp [h]
  simp only [State.busTarget, hr]

/-- An access that touches no register is not the four bytes of one. -/
theorem no_register_of_untouched (h : s.touchesReg a n = false) : n ≠ 4 ∨ s.regAt a = none := by
  rw [or_iff_not_imp_left, Classical.not_not]
  rintro rfl
  rw [Option.eq_none_iff_forall_ne_some]
  intro r hr
  rw [touchesReg_of_regAt hr (by omega)] at h
  cases h

theorem busTarget_partRegister (hn : n ≠ 0) (ht : s.touchesReg a n = true) (h : n ≠ 4 ∨ s.regAt a = none) :
    s.busTarget a n = .partRegister := by
  simp [busTarget_of_no_register h, ht, hn]

theorem busTarget_deadWindow {x : Nat} (ht : s.touchesReg a n = false) (ha : a ≤ x) (hx : x < a + n)
    (hd : s.byteDead x = true) : s.busTarget a n = .deadWindow := by
  have hall : allBytes (fun y => !s.byteDead y) a n = false := allBytes_eq_false ha hx (by simp [hd])
  simp [busTarget_of_no_register (no_register_of_untouched ht), ht, hall]

/-- A live byte is not dead, so a range of live bytes is a window. -/
theorem busTarget_window (ht : s.touchesReg a n = false) (hl : allBytes s.byteLive a n = true) :
    s.busTarget a n = .window := by
  have hall : allBytes (fun y => !s.byteDead y) a n = true := by
    rw [allBytes_iff] at hl ⊢
    intro x ha hx
    simp [State.byteDead, hl x ha hx]
  simp [busTarget_of_no_register (no_register_of_untouched ht), ht, hall, hl]

end

/-! ### Bytes after a store (log 13) -/

section
variable (s : State)

/-- A byte in a stored range holds what was written, or what it held if its bank is write-protected. -/
theorem memoryGet_sdramStore_inside (bs : List Byte) (m : Memory) (a k : Nat) (hk : k < bs.length) :
    memoryGet (s.sdramStore m a bs) (a + k) =
      if s.writeProtected (a + k) then memoryGet m (a + k) else some bs[k] := by
  induction bs generalizing m a k with
  | nil => cases hk
  | cons b bs ih =>
    rw [State.sdramStore]
    cases k with
    | zero =>
      rw [memoryGet_sdramStore_outside _ _ _ _ _ (.inl (by omega))]
      cases s.writeProtected a with
      | true => simp
      | false => simp [memoryGet_memorySet]
    | succ k =>
      rw [List.length_cons] at hk
      have hm : memoryGet (if s.writeProtected a then m else memorySet m a b) (a + (k + 1)) = memoryGet m (a + (k + 1)) := by
        split
        · rfl
        · exact memoryGet_memorySet_of_ne _ _ (by omega)
      rw [← hm, show a + (k + 1) = a + 1 + k by omega, ih _ _ _ (by omega), List.getElem_cons_succ]

/-- The state after a store of bytes from `a` up. -/
def State.stored (a : Nat) (bs : List Byte) : State := { s with sdram := s.sdramStore s.sdram a bs }

theorem sdramByte_stored_inside (a : Nat) (bs : List Byte) (k : Nat) (hk : k < bs.length) :
    (s.stored a bs).sdramByte (a + k) = if s.writeProtected (a + k) then s.sdramByte (a + k) else bs[k] := by
  unfold State.sdramByte State.stored
  rw [memoryGet_sdramStore_inside s bs _ a k hk]
  split <;> rfl

theorem sdramByte_stored_outside (a : Nat) (bs : List Byte) (x : Nat) (h : x < a ∨ a + bs.length ≤ x) :
    (s.stored a bs).sdramByte x = s.sdramByte x := by
  unfold State.sdramByte State.stored
  rw [memoryGet_sdramStore_outside s bs _ a x h]

/-- A read gives the bytes that a range holds, in order. -/
theorem sdramRead_eq (bs : List Byte) (a : Nat) (h : ∀ k (hk : k < bs.length), s.sdramByte (a + k) = bs[k]) :
    s.sdramRead a bs.length = bs := by
  induction bs generalizing a with
  | nil => rfl
  | cons b bs ih =>
    rw [List.length_cons, State.sdramRead]
    refine congrArg₂ List.cons (h 0 (by simp)) (ih (a + 1) fun k hk => ?_)
    rw [show a + 1 + k = a + (k + 1) by omega, h (k + 1) (by simpa using hk), List.getElem_cons_succ]

/-- Without write protection a range reads back what was stored in it. -/
theorem sdramRead_stored (a : Nat) (bs : List Byte) (h : allBytes (fun x => !s.writeProtected x) a bs.length = true) :
    (s.stored a bs).sdramRead a bs.length = bs := by
  refine sdramRead_eq _ bs a fun k hk => ?_
  have hp : s.writeProtected (a + k) = false := by
    simpa using (allBytes_iff _ _ _).1 h (a + k) (by omega) (by omega)
  simp [sdramByte_stored_inside s a bs k hk, hp]

/-- What an access reaches does not depend on what the SDRAM holds. -/
theorem busTarget_stored (a : Nat) (bs : List Byte) (b n : Nat) : (s.stored a bs).busTarget b n = s.busTarget b n := rfl

end

theorem getElem_put32 (w : Word) (k : Nat) (hk : k < (put32 w).length) : (put32 w)[k] = w.extractLsb' (8 * k) 8 := by
  match k, hk with
  | 0, _ => rfl
  | 1, _ => rfl
  | 2, _ => rfl
  | 3, _ => rfl

/-! ### The obligations -/

/-- Settles O43: the range is a window before and after the store (`busTarget_window`, `busTarget_stored`); what the bytes
hold afterwards is said for one byte inside the range and for one outside it. -/
theorem windowReadsBack : Obligations.WindowReadsBack := by
  refine ⟨fun s a bs ht hl => ?_, fun w k hk => getElem_put32 w k _⟩
  have hw := busTarget_window ht hl
  refine ⟨s.stored a bs, ?write, rfl, sdramByte_stored_inside s a bs, sdramByte_stored_outside s a bs, fun hp => ?read⟩
  case write => simp [State.busWrite, hw, State.stored]
  case read =>
    simp [State.busRead, busTarget_stored, hw, sdramRead_stored s a bs hp, State.recordRead]

/-- Settles O42. The ranges that stop are told apart by what they reach (`busTarget_deadWindow`, `busTarget_partRegister`,
`busTarget_register`); a read of RES depends on whether it holds a value. -/
theorem hostAccessStops : Obligations.HostAccessStops := by
  refine ⟨fun s a => ⟨inBank1_iff s a, inBank2_iff s a, byteLive_iff s a⟩, ⟨rfl, rfl⟩, ?dead, ?part, ?register, ?unwritten,
    ?written⟩
  case dead =>
    intro s a bs x ht ha hx hb hl
    have hd : s.byteDead x = true := by simpa [State.byteDead, hl] using hb
    simp [State.busRead, State.busWrite, busTarget_deadWindow ht ha hx hd]
  case part =>
    intro s a bs hne ht h
    have hp := busTarget_partRegister (by simpa using hne) ht h
    simp [State.busRead, State.busWrite, hp]
  case register =>
    intro s a r w hr
    have hw : s.busTarget a (put32 w).length = .register r := busTarget_register hr
    refine ⟨by simp [State.busRead, busTarget_register hr], by simp [State.busWrite, hw], ?_⟩
    rintro k l rfl
    rfl
  case unwritten =>
    intro s k hres
    simp [State.readRes, hres]
  case written =>
    intro s k v hres
    refine ⟨{ s.recordRead (.res v) with names := assocSet k v s.names }, by simp [State.readRes, hres], rfl,
      assocGet_assocSet _ _ _, fun j hj => assocGet_assocSet_of_ne hj _ _⟩

end Sys2Proof.Machine
end

section
/-! PROOFS, family 30_encoding: the byte codec (R100 to R108; log 4, 5). A reader answers a value with some bytes left over
exactly when it was given the value's bytes followed by these: one `↔` per reader of an operand, then per record. The codec's
own lemmas (`get32_put32` and the others) are one half of each; what is proved here is that a value has no second spelling. -/

namespace Sys2Proof

/-! ### Readers in sequence -/

/-- A record's next operand is read, and the rest of the record from the bytes left over. -/
theorem read_bind_eq_some {α β : Type} {x : Option (α × List Byte)} {k : α × List Byte → Option β} {y : β} :
    (x >>= k) = some y ↔ ∃ a r, x = some (a, r) ∧ k (a, r) = some y := by
  simp [Option.bind_eq_some_iff]

theorem read_pure_eq_some {α : Type} {a b : α} {r t : List Byte} :
    (pure (a, r) : Option (α × List Byte)) = some (b, t) ↔ a = b ∧ r = t := by
  simp

/-! ### Bytes and words -/

theorem put16_append (b1 b0 : Byte) : put16 (b1 ++ b0) = [b0, b1] := by
  have h0 : (b1 ++ b0).extractLsb' 0 8 = b0 := BitVec.extractLsb'_append_eq_right
  have h1 : (b1 ++ b0).extractLsb' 8 8 = b1 := BitVec.extractLsb'_append_eq_left
  simp only [put16, h0, h1]

theorem put32_append (b3 b2 b1 b0 : Byte) : put32 (b3 ++ b2 ++ b1 ++ b0) = [b0, b1, b2, b3] := by
  have h0 : (b3 ++ b2 ++ b1 ++ b0).extractLsb' 0 8 = b0 := BitVec.extractLsb'_append_eq_right
  have h1 : (b3 ++ b2 ++ b1 ++ b0).extractLsb' 8 8 = b1 :=
    (BitVec.extractLsb'_append_eq_of_le (by decide)).trans BitVec.extractLsb'_append_eq_right
  have h2 : (b3 ++ b2 ++ b1 ++ b0).extractLsb' 16 8 = b2 := by
    rw [BitVec.extractLsb'_append_eq_of_le (by decide), BitVec.extractLsb'_append_eq_of_le (by decide)]
    exact BitVec.extractLsb'_append_eq_right
  have h3 : (b3 ++ b2 ++ b1 ++ b0).extractLsb' 24 8 = b3 := by
    rw [BitVec.extractLsb'_append_eq_of_le (by decide), BitVec.extractLsb'_append_eq_of_le (by decide)]
    exact BitVec.extractLsb'_append_eq_left
  simp only [put32, h0, h1, h2, h3]

theorem put64_append (hi lo : Word) : put64 (hi ++ lo) = put32 lo ++ put32 hi := by
  have h0 : (hi ++ lo).extractLsb' 0 32 = lo := BitVec.extractLsb'_append_eq_right
  have h1 : (hi ++ lo).extractLsb' 32 32 = hi := BitVec.extractLsb'_append_eq_left
  simp only [put64, h0, h1]

section
variable {bs r : List Byte}

theorem get8_eq_some_iff {b : Byte} : get8 bs = some (b, r) ↔ bs = b :: r := by
  cases bs <;> simp [get8]

theorem get16_eq_some_iff {v : BitVec 16} : get16 bs = some (v, r) ↔ bs = put16 v ++ r := by
  refine ⟨fun h => ?_, fun h => h ▸ get16_put16 v r⟩
  match bs, h with
  | b0 :: b1 :: t, h =>
    obtain ⟨rfl, rfl⟩ : b1 ++ b0 = v ∧ t = r := by simpa only [get16, Option.some.injEq, Prod.mk.injEq] using h
    exact congrArg (· ++ t) (put16_append b1 b0).symm

theorem get32_eq_some_iff {v : Word} : get32 bs = some (v, r) ↔ bs = put32 v ++ r := by
  refine ⟨fun h => ?_, fun h => h ▸ get32_put32 v r⟩
  match bs, h with
  | b0 :: b1 :: b2 :: b3 :: t, h =>
    obtain ⟨rfl, rfl⟩ : b3 ++ b2 ++ b1 ++ b0 = v ∧ t = r := by
      simpa only [get32, Option.some.injEq, Prod.mk.injEq] using h
    exact congrArg (· ++ t) (put32_append b3 b2 b1 b0).symm

theorem get64_eq_some_iff {v : DWord} : get64 bs = some (v, r) ↔ bs = put64 v ++ r := by
  refine ⟨fun h => ?_, fun h => h ▸ get64_put64 v r⟩
  simp only [get64, read_bind_eq_some, read_pure_eq_some, get32_eq_some_iff] at h
  obtain ⟨lo, t, rfl, hi, _, rfl, rfl, rfl⟩ := h
  exact (List.append_assoc ..).symm.trans (congrArg (· ++ _) (put64_append hi lo).symm)

/-! ### Options and tagged forms -/

theorem getFreq_eq_some_iff {f : Option Word} : getFreq bs = some (f, r) ↔ bs = putFreq f ++ r := by
  refine ⟨fun h => ?_, fun h => h ▸ getFreq_putFreq f r⟩
  simp only [getFreq, read_bind_eq_some, get8_eq_some_iff] at h
  obtain ⟨flag, t, rfl, h⟩ := h
  split_ifs at h with h0 h1
  · obtain ⟨rfl, rfl⟩ := read_pure_eq_some.1 h
    rw [h0]; rfl
  · simp only [read_bind_eq_some, read_pure_eq_some, get32_eq_some_iff] at h
    obtain ⟨v, _, rfl, rfl, rfl⟩ := h
    rw [h1]; rfl

theorem getColorKey_eq_some_iff {k : Option ColorKey} : getColorKey bs = some (k, r) ↔ bs = putColorKey k ++ r := by
  refine ⟨fun h => ?_, fun h => h ▸ getColorKey_put k r⟩
  simp only [getColorKey, read_bind_eq_some, get8_eq_some_iff] at h
  obtain ⟨flag, t, rfl, h⟩ := h
  split_ifs at h with h0 h1
  · obtain ⟨rfl, rfl⟩ := read_pure_eq_some.1 h
    rw [h0]; rfl
  · simp only [read_bind_eq_some, read_pure_eq_some, get8_eq_some_iff, get32_eq_some_iff] at h
    obtain ⟨fmt, _, rfl, key, _, rfl, rfl, rfl⟩ := h
    rw [h1]; rfl

theorem getDuration_eq_some_iff {d : Duration} : getDuration bs = some (d, r) ↔ bs = putDuration d ++ r := by
  refine ⟨fun h => ?_, fun h => h ▸ getDuration_putDuration d r⟩
  simp only [getDuration, read_bind_eq_some, get8_eq_some_iff] at h
  obtain ⟨tag, t, rfl, h⟩ := h
  split_ifs at h with h0 h1 h2 h3
  all_goals
    simp only [read_bind_eq_some, read_pure_eq_some, get32_eq_some_iff, get64_eq_some_iff, getFreq_eq_some_iff] at h
    obtain ⟨v, _, rfl, f, _, rfl, rfl, rfl⟩ := h
    simp [putDuration, *]

/-! ### Records -/

theorem getTimingNs_eq_some_iff {t : TimingNs} : getTimingNs bs = some (t, r) ↔ bs = putTimingNs t ++ r := by
  refine ⟨fun h => ?_, fun h => h ▸ getTimingNs_put t r⟩
  simp only [getTimingNs, read_bind_eq_some, read_pure_eq_some, get32_eq_some_iff] at h
  obtain ⟨rcd, _, rfl, rp, _, rfl, wr, _, rfl, rc, _, rfl, ras, _, rfl, xsr, _, rfl, mrd, _, rfl, refresh, _, rfl,
    rfl, rfl⟩ := h
  simp [putTimingNs]

theorem getTimingSpecNs_eq_some_iff {t : TimingSpecNs} :
    getTimingSpecNs bs = some (t, r) ↔ bs = putTimingSpecNs t ++ r := by
  refine ⟨fun h => ?_, fun h => h ▸ getTimingSpecNs_put t r⟩
  simp only [getTimingSpecNs, read_bind_eq_some, read_pure_eq_some, get32_eq_some_iff, getTimingNs_eq_some_iff] at h
  obtain ⟨ns, _, rfl, rowBits, _, rfl, div, _, rfl, rfl, rfl⟩ := h
  simp [putTimingSpecNs]

theorem getGeometry_eq_some_iff {g : Geometry} : getGeometry bs = some (g, r) ↔ bs = putGeometry g ++ r := by
  refine ⟨fun h => ?_, fun h => h ▸ getGeometry_put g r⟩
  simp only [getGeometry, read_bind_eq_some, read_pure_eq_some, get8_eq_some_iff, get32_eq_some_iff] at h
  obtain ⟨col, _, rfl, row, _, rfl, width, _, rfl, banks, _, rfl, cas, _, rfl, wp, _, rfl, div, _, rfl, burst, _, rfl,
    pipe, _, rfl, rfl, rfl⟩ := h
  simp [putGeometry]

theorem getModeConfig_eq_some_iff {m : ModeConfig} : getModeConfig bs = some (m, r) ↔ bs = putModeConfig m ++ r := by
  refine ⟨fun h => ?_, fun h => h ▸ getModeConfig_put m r⟩
  simp only [getModeConfig, read_bind_eq_some, read_pure_eq_some, get8_eq_some_iff, get32_eq_some_iff] at h
  obtain ⟨bl, _, rfl, bt, _, rfl, op, _, rfl, wb, _, rfl, rfl, rfl⟩ := h
  simp [putModeConfig]

theorem getModeParams_eq_some_iff {m : ModeParams} : getModeParams bs = some (m, r) ↔ bs = putModeParams m ++ r := by
  refine ⟨fun h => ?_, fun h => h ▸ getModeParams_put m r⟩
  simp only [getModeParams, read_bind_eq_some, read_pure_eq_some, get8_eq_some_iff, get32_eq_some_iff] at h
  obtain ⟨bl, _, rfl, bt, _, rfl, cas, _, rfl, op, _, rfl, wb, _, rfl, rfl, rfl⟩ := h
  simp [putModeParams]

theorem getSdramConfig_eq_some_iff {c : SdramConfig} : getSdramConfig bs = some (c, r) ↔ bs = putSdramConfig c ++ r := by
  refine ⟨fun h => ?_, fun h => h ▸ getSdramConfig_put c r⟩
  simp only [getSdramConfig, read_bind_eq_some, read_pure_eq_some, getGeometry_eq_some_iff, getTimingNs_eq_some_iff,
    getModeConfig_eq_some_iff] at h
  obtain ⟨g, _, rfl, t, _, rfl, m, _, rfl, rfl, rfl⟩ := h
  simp [putSdramConfig]

theorem getDisplayTiming_eq_some_iff {t : DisplayTimingSpec} :
    getDisplayTiming bs = some (t, r) ↔ bs = putDisplayTiming t ++ r := by
  refine ⟨fun h => ?_, fun h => h ▸ getDisplayTiming_put t r⟩
  simp only [getDisplayTiming, read_bind_eq_some, read_pure_eq_some, get16_eq_some_iff] at h
  obtain ⟨hs, _, rfl, hb, _, rfl, ha, _, rfl, hf, _, rfl, vs, _, rfl, vb, _, rfl, va, _, rfl, vf, _, rfl, rfl, rfl⟩ := h
  simp [putDisplayTiming]

theorem getLayerConfig_eq_some_iff {l : LayerConfig} : getLayerConfig bs = some (l, r) ↔ bs = putLayerConfig l ++ r := by
  refine ⟨fun h => ?_, fun h => h ▸ getLayerConfig_put l r⟩
  simp only [getLayerConfig, read_bind_eq_some, read_pure_eq_some, get8_eq_some_iff, get16_eq_some_iff,
    get32_eq_some_iff, getColorKey_eq_some_iff, getFreq_eq_some_iff] at h
  obtain ⟨layer, _, rfl, pf, _, rfl, color, _, rfl, alpha, _, rfl, bf1, _, rfl, bf2, _, rfl, key, _, rfl, x, _, rfl,
    y, _, rfl, w, _, rfl, h, _, rfl, fb, _, rfl, rfl, rfl⟩ := h
  simp [putLayerConfig]

/-- The list of layers: as many records as the count says. -/
theorem getLayers_eq_some {k : Nat} {ls : List LayerConfig} (h : getLayers k bs = some (ls, r)) :
    ls.length = k ∧ bs = ls.flatMap putLayerConfig ++ r := by
  induction k generalizing bs ls with
  | zero =>
    obtain ⟨rfl, rfl⟩ := read_pure_eq_some.1 h
    exact ⟨rfl, rfl⟩
  | succ k ih =>
    simp only [getLayers, read_bind_eq_some, read_pure_eq_some, getLayerConfig_eq_some_iff] at h
    obtain ⟨l, _, rfl, ls', t, h', rfl, rfl⟩ := h
    obtain ⟨rfl, rfl⟩ := ih h'
    simp

/-- The count byte holds at most 255, so a record that was read can be written. -/
theorem getLtdcConfig_eq_some_iff {c : LtdcConfig} :
    getLtdcConfig bs = some (c, r) ↔ c.layers.length < 256 ∧ bs = putLtdcConfig c ++ r := by
  refine ⟨fun h => ?_, fun ⟨hl, h⟩ => h ▸ getLtdcConfig_put c hl r⟩
  simp only [getLtdcConfig, read_bind_eq_some, read_pure_eq_some, get8_eq_some_iff, get32_eq_some_iff,
    getDisplayTiming_eq_some_iff] at h
  obtain ⟨bg, _, rfl, hs, _, rfl, vs, _, rfl, de, _, rfl, pc, _, rfl, t, _, rfl, n, _, rfl, ls, _, hls, rfl, rfl⟩ := h
  obtain ⟨hn, rfl⟩ := getLayers_eq_some hls
  have hcount : BitVec.ofNat 8 ls.length = n := by simp [hn]
  exact ⟨hn ▸ n.isLt, by simp [putLtdcConfig, hcount]⟩

end

/-! ### Operations (R105) -/

/-- A record that was read is of an encodable operation, whose bytes are the opcode and the bytes read. The cases go by the
number of operands, which is what the readers of a record have in common. -/
theorem encode_of_decodeRecord {o : Opcode} {bs rest : List Byte} {i : Instr} (h : decodeRecord o bs = some (i, rest)) :
    encodable i = true ∧ o.code :: bs = encode i ++ rest := by
  cases o
  all_goals simp only [decodeRecord, read_bind_eq_some, read_pure_eq_some, Option.some.injEq, Prod.mk.injEq,
    get8_eq_some_iff, get16_eq_some_iff, get32_eq_some_iff, get64_eq_some_iff, getDuration_eq_some_iff,
    getTimingSpecNs_eq_some_iff, getSdramConfig_eq_some_iff, getModeParams_eq_some_iff, getDisplayTiming_eq_some_iff,
    getLtdcConfig_eq_some_iff] at h
  case ccNow | ccEnable | sdWaitReady | ltReady | ltWaitReady | ltDitherEnable | ltEnable | csEnter | csExit |
      rccFmcEnable | rccFmcResetPulse | clkFreq =>
    obtain ⟨rfl, rfl⟩ := h
    exact ⟨rfl, rfl⟩
  case ccElapsed | durToTicks | dlyTicks | dlyUs | dlyMs | dlySF32 | dlySF64 | dlyDuration | swLap | swReset |
      swIterNext | sdModeWord | ltSetTiming | ltReload | ltBgcolor | ltLayerEnable | ltRgb565To888 =>
    obtain ⟨a, _, rfl, rfl, rfl⟩ := h
    exact ⟨rfl, rfl⟩
  case ltSetup =>
    obtain ⟨c, _, ⟨hl, rfl⟩, rfl, rfl⟩ := h
    exact ⟨decide_eq_true hl, rfl⟩
  case swLapTime | sdBringup | ltPixelFormat | ltDefaultColor | ltConstAlpha | ltFbAddr =>
    obtain ⟨a, _, rfl, b, _, rfl, rfl, rfl⟩ := h
    exact ⟨rfl, by simp [Opcode.code, encode]⟩
  case swNew | tcConvertSpec | ltBlend | ltColorKey =>
    obtain ⟨a, _, rfl, b, _, rfl, c, _, rfl, rfl, rfl⟩ := h
    exact ⟨rfl, by simp [Opcode.code, encode]⟩
  case tcRefreshCounter | sdSendCmd | ltPolarity | ltLineConfig =>
    obtain ⟨a, _, rfl, b, _, rfl, c, _, rfl, d, _, rfl, rfl, rfl⟩ := h
    exact ⟨rfl, by simp [Opcode.code, encode]⟩
  case tcNanosToCycles | ltWindow | ltWindowXywh =>
    obtain ⟨a, _, rfl, b, _, rfl, c, _, rfl, d, _, rfl, e, _, rfl, rfl, rfl⟩ := h
    exact ⟨rfl, by simp [Opcode.code, encode]⟩

/-- A byte that is read as an opcode is that opcode's byte. -/
theorem code_of_opcodeOf {b : Byte} {o : Opcode} (h : opcodeOf b = some o) : o.code = b := by
  simpa using List.find?_some h

/-- The record of an encodable operation is read back, whatever follows it: one line for each row of the opcode map. -/
theorem decode_encode (rest : List Byte) : ∀ i : Instr, encodable i = true → decode (encode i ++ rest) = .ok (i, rest)
  | .ccNow, _ => decode_of_code .ccNow rfl
  | .ccElapsed _, _ => decode_of_code .ccElapsed (by simp [decodeRecord])
  | .ccEnable, _ => decode_of_code .ccEnable rfl
  | .durToTicks _, _ => decode_of_code .durToTicks (by simp [decodeRecord])
  | .dlyTicks _, _ => decode_of_code .dlyTicks (by simp [decodeRecord])
  | .dlyUs _, _ => decode_of_code .dlyUs (by simp [decodeRecord])
  | .dlyMs _, _ => decode_of_code .dlyMs (by simp [decodeRecord])
  | .dlySF32 _, _ => decode_of_code .dlySF32 (by simp [decodeRecord])
  | .dlySF64 _, _ => decode_of_code .dlySF64 (by simp [decodeRecord])
  | .dlyDuration _, _ => decode_of_code .dlyDuration (by simp [decodeRecord])
  | .swNew _ _ _, _ => decode_of_code .swNew (by simp [decodeRecord])
  | .swLap _, _ => decode_of_code .swLap (by simp [decodeRecord])
  | .swLapTime _ _, _ => decode_of_code .swLapTime (by simp [decodeRecord])
  | .swReset _, _ => decode_of_code .swReset (by simp [decodeRecord])
  | .swIterNext _, _ => decode_of_code .swIterNext (by simp [decodeRecord])
  | .tcNanosToCycles _ _ _ _ _, _ => decode_of_code .tcNanosToCycles (by simp [decodeRecord])
  | .tcRefreshCounter _ _ _ _, _ => decode_of_code .tcRefreshCounter (by simp [decodeRecord])
  | .tcConvertSpec _ _ _, _ => decode_of_code .tcConvertSpec (by simp [decodeRecord])
  | .sdBringup _ _, _ => decode_of_code .sdBringup (by simp [decodeRecord])
  | .sdSendCmd _ _ _ _, _ => decode_of_code .sdSendCmd (by simp [decodeRecord])
  | .sdWaitReady, _ => decode_of_code .sdWaitReady rfl
  | .sdModeWord _, _ => decode_of_code .sdModeWord (by simp [decodeRecord])
  | .ltSetTiming _, _ => decode_of_code .ltSetTiming (by simp [decodeRecord])
  | .ltWindow _ _ _ _ _, _ => decode_of_code .ltWindow (by simp [decodeRecord])
  | .ltWindowXywh _ _ _ _ _, _ => decode_of_code .ltWindowXywh (by simp [decodeRecord])
  | .ltReload _, _ => decode_of_code .ltReload rfl
  | .ltReady, _ => decode_of_code .ltReady rfl
  | .ltWaitReady, _ => decode_of_code .ltWaitReady rfl
  | .ltBgcolor _, _ => decode_of_code .ltBgcolor (by simp [decodeRecord])
  | .ltPolarity _ _ _ _, _ => decode_of_code .ltPolarity rfl
  | .ltPixelFormat _ _, _ => decode_of_code .ltPixelFormat rfl
  | .ltDefaultColor _ _, _ => decode_of_code .ltDefaultColor (by simp [decodeRecord])
  | .ltConstAlpha _ _, _ => decode_of_code .ltConstAlpha rfl
  | .ltBlend _ _ _, _ => decode_of_code .ltBlend rfl
  | .ltColorKey _ _ _, _ => decode_of_code .ltColorKey (by simp [decodeRecord])
  | .ltLineConfig _ _ _ _, _ => decode_of_code .ltLineConfig (by simp [decodeRecord])
  | .ltFbAddr _ _, _ => decode_of_code .ltFbAddr (by simp [decodeRecord])
  | .ltLayerEnable _, _ => decode_of_code .ltLayerEnable rfl
  | .ltDitherEnable, _ => decode_of_code .ltDitherEnable rfl
  | .ltEnable, _ => decode_of_code .ltEnable rfl
  | .ltSetup c, h => decode_of_code .ltSetup (by simp [decodeRecord, getLtdcConfig_put c (of_decide_eq_true h)])
  | .ltRgb565To888 _, _ => decode_of_code .ltRgb565To888 (by simp [decodeRecord])
  | .csEnter, _ => decode_of_code .csEnter rfl
  | .csExit, _ => decode_of_code .csExit rfl
  | .rccFmcEnable, _ => decode_of_code .rccFmcEnable rfl
  | .rccFmcResetPulse, _ => decode_of_code .rccFmcResetPulse rfl
  | .clkFreq, _ => decode_of_code .clkFreq rfl

/-- What decodes has an assigned opcode, and its record was read. -/
theorem decode_ok {b : Byte} {r rest : List Byte} {i : Instr} (h : decode (b :: r) = .ok (i, rest)) :
    ∃ o, opcodeOf b = some o ∧ decodeRecord o r = some (i, rest) := by
  unfold decode at h
  cases ho : opcodeOf b with
  | none => simp [ho] at h
  | some o =>
    cases hr : decodeRecord o r with
    | none => simp [ho, hr] at h
    | some x => simp_all

/-! ### The obligations -/

/-- Settles O2: `decode_encode`. -/
theorem encodeThenDecode : Obligations.EncodeThenDecode := fun i rest => decode_encode rest i

/-- Settles O3: the first byte is the opcode's (`code_of_opcodeOf`), and the rest is the bytes of the record that was read
(`encode_of_decodeRecord`). -/
theorem decodeThenEncode : Obligations.DecodeThenEncode := by
  intro bs rest i h
  cases bs with
  | nil => simp [decode] at h
  | cons b r =>
    obtain ⟨o, ho, hr⟩ := decode_ok h
    rw [← code_of_opcodeOf ho]
    exact encode_of_decodeRecord hr

end Sys2Proof
end

section
/-! PROOFS, family 30_encoding: command words of format SDCMR (R112, R113; log 6). A command word reads back its five fields
and has no bit above them, and a word with no bit above them is the command word of its fields. -/

namespace Sys2Proof

section
variable (mode : BitVec 3) (ctb1 ctb2 : Bool) (nrfs : BitVec 4) (mrd : BitVec 13)

/-- Where R112 puts each bit of the five fields. -/
theorem cmdWord_bit {i : Nat} (hi : i < 32) : (cmdWord mode ctb1 ctb2 nrfs mrd).getLsbD i =
    if i < 3 then mode.getLsbD i else if i = 3 then ctb2 else if i = 4 then ctb1
    else if i < 9 then nrfs.getLsbD (i - 5) else mrd.getLsbD (i - 9) := by
  have hmode : ¬ i < 3 → mode.getLsbD i = false := fun h => BitVec.getLsbD_of_ge _ _ (by omega)
  have hnrfs : ¬ i < 9 → nrfs.getLsbD (i - 5) = false := fun h => BitVec.getLsbD_of_ge _ _ (by omega)
  simp only [cmdWord, BitVec.getLsbD_or, BitVec.getLsbD_setWidth, BitVec.getLsbD_shiftLeft, BitVec.getLsbD_ofBool]
  grind

theorem cmdWord_mode : (cmdWord mode ctb1 ctb2 nrfs mrd).extractLsb' 0 3 = mode :=
  BitVec.eq_of_getLsbD_eq fun i hi => by
    rw [BitVec.getLsbD_extractLsb', cmdWord_bit _ _ _ _ _ (by omega)]
    simp [hi]

theorem cmdWord_ctb2 : (cmdWord mode ctb1 ctb2 nrfs mrd).getLsbD 3 = ctb2 := cmdWord_bit _ _ _ _ _ (by decide)

theorem cmdWord_ctb1 : (cmdWord mode ctb1 ctb2 nrfs mrd).getLsbD 4 = ctb1 := cmdWord_bit _ _ _ _ _ (by decide)

theorem cmdWord_nrfs : (cmdWord mode ctb1 ctb2 nrfs mrd).extractLsb' 5 4 = nrfs :=
  BitVec.eq_of_getLsbD_eq fun i hi => by
    rw [BitVec.getLsbD_extractLsb', cmdWord_bit _ _ _ _ _ (by omega)]
    grind

theorem cmdWord_mrd : (cmdWord mode ctb1 ctb2 nrfs mrd).extractLsb' 9 13 = mrd :=
  BitVec.eq_of_getLsbD_eq fun i hi => by
    rw [BitVec.getLsbD_extractLsb', cmdWord_bit _ _ _ _ _ (by omega)]
    grind

theorem cmdWord_high : (cmdWord mode ctb1 ctb2 nrfs mrd).extractLsb' 22 10 = 0 :=
  BitVec.eq_of_getLsbD_eq fun i hi => by
    have hmrd : mrd.getLsbD (22 + i - 9) = false := BitVec.getLsbD_of_ge _ _ (by omega)
    rw [BitVec.getLsbD_extractLsb', cmdWord_bit _ _ _ _ _ (by omega)]
    grind

end

/-- A word with no bit above the fields is put together of its own fields. -/
theorem cmdWord_of_fields {w : Word} (h : w.extractLsb' 22 10 = 0) :
    cmdWord (w.extractLsb' 0 3) (w.getLsbD 4) (w.getLsbD 3) (w.extractLsb' 5 4) (w.extractLsb' 9 13) = w :=
  BitVec.eq_of_getLsbD_eq fun i hi => by
    have hhigh : (w.extractLsb' 22 10).getLsbD (i - 22) = false := by rw [h]; simp
    rw [BitVec.getLsbD_extractLsb'] at hhigh
    rw [cmdWord_bit _ _ _ _ _ hi]
    simp only [BitVec.getLsbD_extractLsb']
    grind

/-- A word reads as an instruction exactly when it is that instruction's word. -/
theorem decodeCommand_eq_some_iff {w : Word} {i : Instr} : decodeCommand w = some i ↔ commandOf i = some w := by
  constructor
  · intro h
    simp only [decodeCommand] at h
    split_ifs at h with hhigh hmode
    all_goals
      have hw := cmdWord_of_fields (w := w) (by simpa using hhigh)
      rw [‹w.extractLsb' 0 3 = _›] at hw
      rw [← Option.some.inj h]
      exact congrArg some hw
  · intro h
    cases i <;> simp only [commandOf, Option.some.injEq, reduceCtorEq] at h
    all_goals
      subst h
      simp only [decodeCommand, cmdWord_mode, cmdWord_ctb1, cmdWord_ctb2, cmdWord_nrfs, cmdWord_mrd, cmdWord_high]
      rfl

/-- A word reads as none exactly when its MODE is not issued or it has a bit above the fields. -/
theorem decodeCommand_eq_none_iff {w : Word} : decodeCommand w = none ↔
    w.extractLsb' 0 3 ∉ ([1, 2, 3, 4] : List (BitVec 3)) ∨ w.extractLsb' 22 10 ≠ 0 := by
  unfold decodeCommand
  grind

theorem mode_mem_iff (w : Word) : w.extractLsb' 0 3 ∈ ([1, 2, 3, 4] : List (BitVec 3)) ↔ w.toNat % 8 ∈ [1, 2, 3, 4] := by
  simp [← BitVec.toNat_inj, BitVec.extractLsb'_toNat]

theorem high_eq_zero_iff (w : Word) : w.extractLsb' 22 10 = 0 ↔ w.toNat < 2 ^ 22 := by
  have := w.isLt
  rw [← BitVec.toNat_inj, BitVec.extractLsb'_toNat, Nat.shiftRight_eq_div_pow]
  simp only [BitVec.ofNat_eq_ofNat, BitVec.toNat_ofNat]
  omega

/-- Settles O4: the two directions of the round trip are one `↔`, and the words outside it are those of another MODE or with
a bit above the fields. -/
theorem commandWordsRoundTrip : Obligations.CommandWordsRoundTrip := by
  refine ⟨fun _ _ => decodeCommand_eq_some_iff.2, fun _ _ => decodeCommand_eq_some_iff.1, fun w => ?_⟩
  rw [decodeCommand_eq_none_iff, mode_mem_iff, ne_eq, high_eq_zero_iff, Nat.not_lt]

end Sys2Proof
end

section
/-! PROOFS, family 30_encoding: refusals. The reserved opcodes (R106), the operand records that are not of their type (R101,
R107), and words written out by hand from the opcode map. -/

namespace Sys2Proof.Machine

/-! ### Reserved opcodes (R106) -/

/-- A decoder stops with a reserved opcode exactly when the byte stands in no row of the opcode map; a record it cannot read
is another error. -/
theorem decode_reserved_iff {b : Byte} {r : List Byte} : decode (b :: r) = .error .reservedOpcode ↔ opcodeOf b = none := by
  unfold decode
  cases ho : opcodeOf b with
  | none => simp [ho]
  | some o => cases hr : decodeRecord o r <;> simp [ho, hr]

/-- The bytes that stand in no row are the ranges of R106, letter for letter. -/
theorem opcodeOf_eq_none_iff : ∀ b : Byte, opcodeOf b = none ↔
    b = 0 ∨ (0x05 ≤ b ∧ b ≤ 0x0F) ∨ (0x16 ≤ b ∧ b ≤ 0x1F) ∨ (0x25 ≤ b ∧ b ≤ 0x2F) ∨ (0x33 ≤ b ∧ b ≤ 0x3F) ∨
      (0x44 ≤ b ∧ b ≤ 0x4F) ∨ (0x64 ≤ b ∧ b ≤ 0x6F) ∨ 0x75 ≤ b := by
  decide +kernel

/-- An invocation whose bytes begin with a reserved opcode is refused. -/
theorem hostActWith_reserved {ex : Instr → State → Answer} {s : State} {bs : List Byte}
    (h : decode bs = .error .reservedOpcode) : hostActWith ex (.op [.bytes bs]) s = .next (s.refuse .reservedOpcode) := by
  have hb : s.partBytes [.bytes bs] = some bs := by simp [State.partBytes]
  simp only [hostActWith, hb, h]

/-- Settles O5. -/
theorem reservedOpcodesRefused : Obligations.ReservedOpcodesRefused := by
  intro b r
  refine ⟨decode_reserved_iff.trans (opcodeOf_eq_none_iff b), fun s p he ht hp hd => ?_⟩
  exact (hostStepWith_of_program he ht hp).trans (hostActWith_reserved hd)

/-! ### Operands outside their types (R101, R107) -/

section
variable {s : State} {c d : Bool} {a : Answer}

/-- An operation that begins with the check `c` is refused when it fails. -/
theorem refused_of_false (h : c = false) :
    (if !c then .next (s.refuse .badOperand) else a) = Host.Outcome.next (s.refuse .badOperand) := by
  simp [h]

/-- So is one whose check asks for more than the record's type. -/
theorem refused_of_false_and (h : c = false) :
    (if !(c && d) then .next (s.refuse .badOperand) else a) = Host.Outcome.next (s.refuse .badOperand) := by
  simp [h]

end

theorem bankOk_eq_isSome : ∀ b : Byte, bankOk b = (bankOf b).isSome := by
  decide +kernel

theorem reloadModeOf_eq_none : ∀ b : Byte, reloadModeOk b = false → reloadModeOf b = none := by
  decide +kernel

theorem modeWord_eq_none {p : Params} {mp : ModeParams} (h : (modeConfigOk mp.mode && casOk mp.casLatency) = false) :
    modeWord p mp = none := by
  simp only [modeWord, h, Bool.false_eq_true, if_false]

theorem setupRefusal_of_illTyped {n : Nat} {p : Params} {c : LtdcConfig} (h : ltdcConfigOk n c = false) :
    setupRefusal n p c = some .badOperand := by
  simp only [setupRefusal, h, Bool.false_and, Bool.not_false, if_true]

theorem execSdBringup_illTyped {bank : Byte} {cfg : SdramConfig} {s : State}
    (h : (bankOk bank && boolOk cfg.geometry.writeProtect && boolOk cfg.geometry.readBurst) = false) :
    execSdBringup bank cfg s = .next (s.refuse .badOperand) := by
  unfold execSdBringup
  cases hb : bankOf bank with
  | none => rfl
  | some b =>
    rw [bankOk_eq_isSome, hb, Option.isSome_some, Bool.true_and] at h
    exact refused_of_false h

theorem execSdSendCmd_illTyped {bank mode nrfs : Byte} {mrd : BitVec 16} {s : State}
    (h : (bankOk bank && u3Ok mode && u4Ok nrfs && u13Ok mrd) = false) :
    execSdSendCmd bank mode nrfs mrd s = .next (s.refuse .badOperand) := by
  unfold execSdSendCmd
  cases hb : bankOf bank with
  | none => rfl
  | some b =>
    rw [bankOk_eq_isSome, hb, Option.isSome_some, Bool.true_and] at h
    exact refused_of_false h

/-- Settles O8. Most operations begin with the check of their record (`refused_of_false`), some of them with a stronger one; the
other operations with a check reach it through the typed value behind a code, and the rest have no ill-typed record. -/
theorem illTypedOperandRefused : Obligations.IllTypedOperandRefused := by
  intro i s h
  cases i
  case durToTicks | dlyDuration | swNew | tcConvertSpec | ltWindow | ltWindowXywh | ltBgcolor | ltPolarity | ltPixelFormat |
      ltDefaultColor | ltConstAlpha | ltFbAddr | ltLayerEnable =>
    exact refused_of_false h
  case ltBlend | ltColorKey | ltLineConfig => exact refused_of_false_and h
  case sdBringup => exact execSdBringup_illTyped h
  case sdSendCmd => exact execSdSendCmd_illTyped h
  case sdModeWord => simp only [exec, execSdModeWord, modeWord_eq_none h]
  case ltReload => simp only [exec, execLtReload, reloadModeOf_eq_none _ h]
  case ltSetup => simp only [exec, execLtSetup, setupRefusal_of_illTyped h]
  all_goals cases h

/-! ### Words written out by hand -/

/-- Settles O1: each record is the encoding of its operation (`decode_encode`), each command word that of its instruction. -/
theorem decodeKnownWords : Obligations.DecodeKnownWords :=
  ⟨decode_encode [] .ccNow rfl, decode_encode [] (.ccElapsed 0xFFFFFFF0) rfl, decode_encode [] (.dlyTicks 0x8000000A) rfl,
    decode_encode [] (.swLapTime 1 2) rfl, decode_encode [] (.sdSendCmd 2 3 7 0) rfl,
    decode_encode [] (.ltFbAddr 1 0xD0000000) rfl, decode_encode [] .csExit rfl, decodeCommand_eq_some_iff.2 rfl,
    decodeCommand_eq_some_iff.2 rfl, decode_reserved_iff.2 rfl⟩

end Sys2Proof.Machine
end

section
/-! PROOFS, family 30_encoding: the mode-register word (R111, R114, R244; log 21), bit by bit. -/

namespace Sys2Proof.Machine

/-! ### Legal parameters (R114, R244) -/

theorem modeConfigOk_iff (m : ModeConfig) : modeConfigOk m = true ↔
    m.burstLength.toNat ∈ [1, 2, 4, 8] ∧ m.burstType.toNat < 2 ∧ m.opMode = 0 ∧ m.writeBurst.toNat < 2 := by
  simp [modeConfigOk, boolOk, ← BitVec.toNat_inj, and_assoc, or_assoc]

theorem casOk_iff (c : Word) : casOk c = true ↔ c.toNat ∈ [1, 2, 3] := by
  simp [casOk, ← BitVec.toNat_inj, or_assoc]

theorem lt_of_casOk {c : Word} (h : casOk c = true) : c.toNat < 2 ^ 2 := by
  have := (casOk_iff c).1 h
  simp only [List.mem_cons, List.not_mem_nil, or_false] at this
  omega

theorem boolOf_of_ok : ∀ b : Byte, b.toNat < 2 → boolOf b = (b == 1) := by
  decide +kernel

/-- The burst-length code takes the two lowest bits, and is the exponent of the length. -/
theorem burstCode_of_ok {b : Word} (h : b.toNat ∈ [1, 2, 4, 8]) :
    (burstCode b).toNat < 2 ^ 2 ∧ 2 ^ (burstCode b).toNat = b.toNat := by
  obtain rfl | rfl | rfl | rfl : b = 1 ∨ b = 2 ∨ b = 4 ∨ b = 8 := by simpa [← BitVec.toNat_inj] using h
  all_goals decide

/-! ### The bits of the word -/

theorem getLsbD_of_lt_two_pow {n k i : Nat} {x : BitVec n} (h : x.toNat < 2 ^ k) (hi : k ≤ i) : x.getLsbD i = false :=
  Nat.testBit_lt_two_pow (h.trans_le (Nat.pow_le_pow_right (by decide) hi))

section
variable {p : Params} {mp : ModeParams} {w : BitVec 13}

theorem modeWord_ok (h : modeWord p mp = some w) : modeConfigOk mp.mode = true ∧ casOk mp.casLatency = true := by
  by_contra hn
  rw [← Bool.and_eq_true_iff, Bool.not_eq_true] at hn
  simp [modeWord_eq_none hn] at h

theorem modeWord_of_ok (p : Params) (hm : modeConfigOk mp.mode = true) (hc : casOk mp.casLatency = true) :
    ∃ w, modeWord p mp = some w := by
  simp [modeWord, hm, hc]

/-- Where R111 puts each bit: the five parts do not overlap, since a legal burst code has two bits and a legal latency two. -/
theorem modeWord_bit (h : modeWord p mp = some w) {i : Nat} (hi : i < 13) : w.getLsbD i =
    if i < 3 then (burstCode mp.mode.burstLength).getLsbD i else if i = 3 then boolOf mp.mode.burstType
    else if i < 7 then mp.casLatency.getLsbD (i - 4) else if i < 9 then p.mrOpmodeStandard.getLsbD (i - 7)
    else if i = 9 then boolOf mp.mode.writeBurst else false := by
  obtain ⟨hm, hc⟩ := modeWord_ok h
  have hburst : 2 ≤ i → (burstCode mp.mode.burstLength).getLsbD i = false :=
    getLsbD_of_lt_two_pow (burstCode_of_ok ((modeConfigOk_iff _).1 hm).1).1
  have hcas : 2 ≤ i - 4 → mp.casLatency.getLsbD (i - 4) = false :=
    getLsbD_of_lt_two_pow (lt_of_casOk hc)
  have hmode : 2 ≤ i - 7 → p.mrOpmodeStandard.getLsbD (i - 7) = false := BitVec.getLsbD_of_ge _ _
  rw [modeWord, hm, hc] at h
  simp only [Bool.and_self, if_true, Option.some.injEq] at h
  simp only [← h, BitVec.getLsbD_or, BitVec.getLsbD_setWidth, BitVec.getLsbD_shiftLeft, BitVec.getLsbD_ofBool]
  grind

theorem modeWord_burst (h : modeWord p mp = some w) : w.extractLsb' 0 2 = (burstCode mp.mode.burstLength).setWidth 2 :=
  BitVec.eq_of_getLsbD_eq fun i hi => by
    rw [BitVec.getLsbD_extractLsb', modeWord_bit h (by omega), BitVec.getLsbD_setWidth]
    grind

theorem modeWord_cas (h : modeWord p mp = some w) : w.extractLsb' 4 3 = mp.casLatency.setWidth 3 :=
  BitVec.eq_of_getLsbD_eq fun i hi => by
    rw [BitVec.getLsbD_extractLsb', modeWord_bit h (by omega), BitVec.getLsbD_setWidth]
    grind

theorem modeWord_opMode (h : modeWord p mp = some w) : w.extractLsb' 7 2 = p.mrOpmodeStandard :=
  BitVec.eq_of_getLsbD_eq fun i hi => by
    rw [BitVec.getLsbD_extractLsb', modeWord_bit h (by omega)]
    grind

theorem modeWord_high (h : modeWord p mp = some w) : w.extractLsb' 10 3 = 0 :=
  BitVec.eq_of_getLsbD_eq fun i hi => by
    rw [BitVec.getLsbD_extractLsb', modeWord_bit h (by omega)]
    grind

end

/-! ### The obligation -/

/-- Settles O33: the word is read part by part (`modeWord_bit`), and there is none for parameters that are not legal. -/
theorem modeWordResult : Obligations.ModeWordResult := by
  refine fun s mp => ⟨rfl, fun hm hc => ?fields, fun h => ?refused, ?legal⟩
  case fields =>
    obtain ⟨w, h⟩ := modeWord_of_ok s.params hm hc
    obtain ⟨hburst, htype, -, hwrite⟩ := (modeConfigOk_iff _).1 hm
    obtain ⟨hcode, hlength⟩ := burstCode_of_ok hburst
    have hcas : mp.casLatency.toNat < 2 ^ 3 := (lt_of_casOk hc).trans (by decide)
    refine ⟨w, ?_, ?_, ?_, ?_, ?_, modeWord_opMode h, ?_, modeWord_high h⟩
    · simp only [exec, execSdModeWord, h, State.setRes]
    · rw [modeWord_burst h, BitVec.toNat_setWidth, Nat.mod_eq_of_lt hcode, hlength]
    · exact (modeWord_bit h (by decide)).trans (getLsbD_of_lt_two_pow hcode le_rfl)
    · exact (modeWord_bit h (by decide)).trans (boolOf_of_ok _ htype)
    · rw [modeWord_cas h, BitVec.toNat_setWidth, Nat.mod_eq_of_lt hcas]
    · exact (modeWord_bit h (by decide)).trans (boolOf_of_ok _ hwrite)
  case refused =>
    simp only [exec, execSdModeWord, modeWord_eq_none (Bool.and_eq_false_iff.2 h)]
  case legal =>
    have hbool : ∀ n, n < 2 ↔ n ∈ [0, 1] := by simp; omega
    rw [modeConfigOk_iff, casOk_iff, hbool, hbool]
    tauto

end Sys2Proof.Machine
end

section
/-! PROOFS, family 30_encoding: words put together from fields (R116, R119, R120; 10_state.md R41 to R53; log 8, 32). A word is
the `|||` of its fields with their values (`putAll`); where the fields fit a register and each value its field, every field
reads its value, and the word is the sum of the values at their positions. -/

namespace Sys2Proof.Machine

/-! ### A word of fields that are apart -/

/-- The word with each value in its field and 0 elsewhere. -/
def putAll (l : List (BitField × Nat)) : Word := l.foldr (fun q w => q.1.put q.2 ||| w) 0

theorem putAll_cons (q : BitField × Nat) (l : List (BitField × Nat)) : putAll (q :: l) = q.1.put q.2 ||| putAll l := rfl

/-- The sum of the values, each times the weight of its field's lowest bit. It has its own recursion, so that a position stands
in its power as the number it is: the kernel would compare powers of a projection by unfolding them. -/
def partsSum : List (BitField × Nat) → Nat
  | [] => 0
  | (⟨pos, _⟩, v) :: l => v * 2 ^ pos + partsSum l

/-- The fields lie in a register apart from each other, and each value fits its field. -/
structure PartsFit (l : List (BitField × Nat)) : Prop where
  fields : fieldsFit (l.map Prod.fst) = true
  values : ∀ q ∈ l, q.2 < 2 ^ q.1.width

theorem partsFit_cons {q : BitField × Nat} {l : List (BitField × Nat)} : PartsFit (q :: l) ↔
    q.1.pos + q.1.width ≤ 32 ∧ (∀ r ∈ l, q.1.apart r.1 = true) ∧ q.2 < 2 ^ q.1.width ∧ PartsFit l := by
  constructor
  · intro ⟨hf, hv⟩
    simp only [List.map_cons, fieldsFit, Bool.and_eq_true, decide_eq_true_eq, List.all_map, List.all_eq_true] at hf
    exact ⟨hf.1.1, hf.1.2, hv q (List.mem_cons_self ..), hf.2, fun r hr => hv r (List.mem_cons_of_mem _ hr)⟩
  · intro ⟨hle, hapart, hq, hf, hv⟩
    exact ⟨by simpa [fieldsFit, hle, hf] using hapart, List.forall_mem_cons.2 ⟨hq, hv⟩⟩

theorem apart_symm {f g : BitField} (h : f.apart g = true) : g.apart f = true := by
  rwa [BitField.apart, Bool.or_comm]

theorem get_putAll_apart {f : BitField} {l : List (BitField × Nat)} (h : ∀ q ∈ l, f.apart q.1 = true) :
    f.get (putAll l) = 0 := by
  induction l with
  | nil => simp [putAll, BitField.get]
  | cons q l ih =>
    obtain ⟨hq, hl⟩ := List.forall_mem_cons.1 h
    rw [putAll_cons, BitField.get_or, f.get_put_apart _ _ hq, ih hl, Nat.or_self]

/-- Every field of a word reads the value put into it. -/
theorem PartsFit.get {l : List (BitField × Nat)} (h : PartsFit l) {f : BitField} {v : Nat} (hm : (f, v) ∈ l) :
    f.get (putAll l) = v := by
  induction l with
  | nil => cases hm
  | cons q l ih =>
    obtain ⟨hle, hapart, hq, hl⟩ := partsFit_cons.1 h
    rw [putAll_cons, BitField.get_or]
    rcases List.mem_cons.1 hm with rfl | hm
    · rw [BitField.get_put_of_lt f v hle hq, get_putAll_apart hapart, Nat.or_zero]
    · rw [f.get_put_apart _ _ (apart_symm (hapart _ hm)), ih hl hm, Nat.zero_or]

theorem toNat_put {f : BitField} {v : Nat} (hle : f.pos + f.width ≤ 32) (hv : v < 2 ^ f.width) :
    (f.put v).toNat = v * 2 ^ f.pos := by
  have hlt : v * 2 ^ f.pos < 2 ^ 32 :=
    calc v * 2 ^ f.pos < 2 ^ f.width * 2 ^ f.pos := Nat.mul_lt_mul_of_pos_right hv (Nat.two_pow_pos _)
      _ = 2 ^ (f.pos + f.width) := by rw [Nat.add_comm, Nat.pow_add]
      _ ≤ 2 ^ 32 := Nat.pow_le_pow_right (by decide) hle
  rw [BitField.put, Nat.mod_eq_of_lt hv, BitVec.toNat_ofNat, Nat.mod_eq_of_lt hlt]

theorem put_and_put_apart {f g : BitField} (h : f.apart g = true) (u v : Nat) : f.put u &&& g.put v = 0 := by
  simp only [BitField.apart, Bool.or_eq_true, decide_eq_true_eq] at h
  refine BitVec.eq_of_getLsbD_eq fun i hi => ?_
  have : ¬ (f.pos ≤ i ∧ i - f.pos < f.width ∧ g.pos ≤ i ∧ i - g.pos < g.width) := by omega
  simp only [BitVec.getLsbD_and, BitField.put_bit]
  grind

theorem put_and_putAll_apart {f : BitField} {l : List (BitField × Nat)} (v : Nat) (h : ∀ q ∈ l, f.apart q.1 = true) :
    f.put v &&& putAll l = 0 := by
  induction l with
  | nil => simp [putAll]
  | cons q l ih =>
    obtain ⟨hq, hl⟩ := List.forall_mem_cons.1 h
    rw [putAll_cons, BitVec.and_or_distrib_left, put_and_put_apart hq, ih hl]
    rfl

theorem PartsFit.toNat {l : List (BitField × Nat)} (h : PartsFit l) : (putAll l).toNat = partsSum l := by
  induction l with
  | nil => rfl
  | cons q l ih =>
    obtain ⟨hle, hapart, hq, hl⟩ := partsFit_cons.1 h
    have hdisjoint := put_and_putAll_apart q.2 hapart
    rw [putAll_cons, ← BitVec.add_eq_or_of_and_eq_zero _ _ hdisjoint, BitVec.toNat_add_of_and_eq_zero hdisjoint,
      toNat_put hle hq, ih hl]
    rfl

theorem PartsFit.toNat_of_eq {w : Word} {l : List (BitField × Nat)} (h : PartsFit l) (hw : w = putAll l) :
    w.toNat = partsSum l := by
  rw [hw, h.toNat]

/-! ### What a layout gives (log 8) -/

theorem layoutOk_fits {p : Params} (h : p.layoutOk = true) {r : Reg} (hr : r ∈ Reg.kinds) : fieldsFit (p.fieldsOf r) = true := by
  simp only [Params.layoutOk, Bool.and_eq_true, List.all_eq_true] at h
  exact h.1.1 r hr

theorem layoutOk_width {p : Params} (h : p.layoutOk = true) {f : BitField} {n : Nat}
    (hf : (f, n) ∈ p.regMap.fields.fixedWidths) : f.width = n := by
  simp only [Params.layoutOk, Bool.and_eq_true, List.all_eq_true, beq_iff_eq] at h
  exact h.1.2 (f, n) hf

/-! ### Pair registers (R120; log 32) -/

theorem pairWord_eq (q : PairPos) (hBits lBits hi lo : Nat) :
    q.word hBits lBits hi lo = putAll [(q.high hBits, hi), (q.low lBits, lo)] := by
  simp [PairPos.word, putAll]

theorem pairParts_fit {q : PairPos} {hBits lBits hi lo : Nat} (hf : fieldsFit [q.high hBits, q.low lBits] = true)
    (hhi : hi < 2 ^ hBits) (hlo : lo < 2 ^ lBits) : PartsFit [(q.high hBits, hi), (q.low lBits, lo)] :=
  ⟨hf, by simpa using ⟨hhi, hlo⟩⟩

/-- The two fields of a pair word read the two values. -/
theorem pairWord_get {q : PairPos} {hBits lBits hi lo : Nat} (hf : fieldsFit [q.high hBits, q.low lBits] = true)
    (hhi : hi < 2 ^ hBits) (hlo : lo < 2 ^ lBits) : (q.high hBits).get (q.word hBits lBits hi lo) = hi ∧
    (q.low lBits).get (q.word hBits lBits hi lo) = lo := by
  rw [pairWord_eq]
  exact ⟨(pairParts_fit hf hhi hlo).get (by simp), (pairParts_fit hf hhi hlo).get (by simp)⟩

/-- In the default map the pair word is `{hi, lo}` of R120. -/
theorem pairWord_default {hBits lBits hi lo : Nat} (hb : hBits ≤ 16) (lb : lBits ≤ 16) (hhi : hi < 2 ^ hBits)
    (hlo : lo < 2 ^ lBits) : PairPos.default.word hBits lBits hi lo = pairOf hi lo := by
  have hf : fieldsFit [PairPos.default.high hBits, PairPos.default.low lBits] = true := by
    simp only [fieldsFit, BitField.apart, List.all_cons, List.all_nil, Bool.and_true, Bool.and_eq_true, Bool.or_eq_true,
      decide_eq_true_eq]
    simp only [PairPos.high, PairPos.low, PairPos.default]
    omega
  have hhi' : hi < 2 ^ 16 := hhi.trans_le (Nat.pow_le_pow_right (by decide) hb)
  have hlo' : lo < 2 ^ 16 := hlo.trans_le (Nat.pow_le_pow_right (by decide) lb)
  have hparts : [(PairPos.default.high hBits, hi), (PairPos.default.low lBits, lo)] =
      [(⟨16, hBits⟩, hi), (⟨0, lBits⟩, lo)] := rfl
  refine BitVec.eq_of_toNat_eq ?_
  rw [pairWord_eq, (pairParts_fit hf hhi hlo).toNat, hparts, pairOf, BitVec.toNat_ofNat]
  simp only [partsSum, -Nat.reducePow]
  omega

/-! ### The control word of a geometry (R116, R229) -/

/-- A code is the one that the table gives its value. -/
theorem fieldCode_toNat {k : Nat} {l : List (Nat × BitVec k)} {x : Nat} {c : BitVec k} (f : Nat → Nat)
    (hl : ∀ q ∈ l, q.2.toNat = f q.1) (h : fieldCode l x = some c) : c.toNat = f x := by
  induction l with
  | nil => cases h
  | cons q l ih =>
    obtain ⟨hq, hl⟩ := List.forall_mem_cons.1 hl
    rw [fieldCode] at h
    split_ifs at h with hx
    · rw [← Option.some.inj h, ← hx]; exact hq
    · exact ih hl h

/-- The fields of a control register with the codes that R116 gives the values of a geometry. -/
def controlParts (m : SdcrFields) (g : Geometry) : List (BitField × Nat) :=
  [(m.nc, g.colBits.toNat - 8), (m.nr, g.rowBits.toNat - 11),
    (m.mwid, if g.dataWidth = 8 then 0 else if g.dataWidth = 16 then 1 else 2),
    (m.nb, if g.internalBanks = 2 then 0 else 1), (m.cas, g.casLatency.toNat), (m.wp, g.writeProtect.toNat),
    (m.sdclk, g.sdclkDiv.toNat), (m.rburst, g.readBurst.toNat), (m.rpipe, g.readPipe.toNat)]

theorem boolOf_toNat : ∀ b : Byte, boolOk b = true → (boolOf b).toNat = b.toNat := by
  decide +kernel

/-- The control word of a legal geometry is put together of these parts, and each fits its field in a layout. -/
theorem sdcrWord_parts {p : Params} {g : Geometry} {w : Word} (hp : p.layoutOk = true)
    (h : sdcrWord p.regMap.fields {} g = some w) (hwp : boolOk g.writeProtect = true)
    (hrb : boolOk g.readBurst = true) :
    w = putAll (controlParts p.regMap.fields.sdcr g) ∧ PartsFit (controlParts p.regMap.fields.sdcr g) := by
  simp only [sdcrWord, Option.bind_eq_bind, Option.bind_eq_some_iff, Option.pure_def, Option.some.injEq] at h
  obtain ⟨nc, hnc, nr, hnr, mwid, hmwid, nb, hnb, cas, hcas, div, hdiv, pipe, hpipe, rfl⟩ := h
  have hparts : controlParts p.regMap.fields.sdcr g =
      [(p.regMap.fields.sdcr.nc, nc.toNat), (p.regMap.fields.sdcr.nr, nr.toNat), (p.regMap.fields.sdcr.mwid, mwid.toNat),
        (p.regMap.fields.sdcr.nb, nb.toNat), (p.regMap.fields.sdcr.cas, cas.toNat),
        (p.regMap.fields.sdcr.wp, (boolOf g.writeProtect).toNat), (p.regMap.fields.sdcr.sdclk, div.toNat),
        (p.regMap.fields.sdcr.rburst, (boolOf g.readBurst).toNat), (p.regMap.fields.sdcr.rpipe, pipe.toNat)] := by
    rw [fieldCode_toNat (· - 8) (by decide) hnc, fieldCode_toNat (· - 11) (by decide) hnr,
      fieldCode_toNat (fun n => if n = 8 then 0 else if n = 16 then 1 else 2) (by decide) hmwid,
      fieldCode_toNat (fun n => if n = 2 then 0 else 1) (by decide) hnb, fieldCode_toNat id (by decide) hcas,
      fieldCode_toNat id (by decide) hdiv, fieldCode_toNat id (by decide) hpipe, boolOf_toNat _ hwp, boolOf_toNat _ hrb]
    simp [controlParts, ← BitVec.toNat_inj]
  refine ⟨?_, layoutOk_fits hp (r := .sdcr1) (by decide), ?_⟩
  · rw [hparts]
    simp [putAll, BitField.putBit, BitVec.or_assoc]
  · have hwidth : ∀ f n v, (f, n) ∈ p.regMap.fields.fixedWidths → v < 2 ^ n → v < 2 ^ f.width := fun f n v hf hv => by
      rwa [layoutOk_width hp hf]
    rw [hparts]
    simp only [List.forall_mem_cons]
    refine ⟨hwidth _ 2 _ ?_ nc.isLt, hwidth _ 2 _ ?_ nr.isLt, hwidth _ 2 _ ?_ mwid.isLt, hwidth _ 1 _ ?_ nb.isLt,
      hwidth _ 2 _ ?_ cas.isLt, hwidth _ 1 _ ?_ (Bool.toNat_lt _), hwidth _ 2 _ ?_ div.isLt,
      hwidth _ 1 _ ?_ (Bool.toNat_lt _), hwidth _ 2 _ ?_ pipe.isLt, by simp⟩
    all_goals simp [FieldMap.fixedWidths]

theorem layoutOk_default : Params.default.layoutOk = true := by decide +kernel

theorem sdcrWord_default {g : Geometry} {w : Word} (h : sdcrWord .default {} g = some w)
    (hwp : boolOk g.writeProtect = true) (hrb : boolOk g.readBurst = true) :
    w.toNat = (g.colBits.toNat - 8) + 4 * (g.rowBits.toNat - 11) +
      16 * (if g.dataWidth = 8 then 0 else if g.dataWidth = 16 then 1 else 2) + 64 * (if g.internalBanks = 2 then 0 else 1) +
      128 * g.casLatency.toNat + 512 * g.writeProtect.toNat + 1024 * g.sdclkDiv.toNat + 4096 * g.readBurst.toNat +
      8192 * g.readPipe.toNat := by
  obtain ⟨rfl, hfit⟩ := sdcrWord_parts layoutOk_default h hwp hrb
  have hparts : controlParts Params.default.regMap.fields.sdcr g =
      [(⟨0, 2⟩, g.colBits.toNat - 8), (⟨2, 2⟩, g.rowBits.toNat - 11),
        (⟨4, 2⟩, if g.dataWidth = 8 then 0 else if g.dataWidth = 16 then 1 else 2),
        (⟨6, 1⟩, if g.internalBanks = 2 then 0 else 1), (⟨7, 2⟩, g.casLatency.toNat), (⟨9, 1⟩, g.writeProtect.toNat),
        (⟨10, 2⟩, g.sdclkDiv.toNat), (⟨12, 1⟩, g.readBurst.toNat), (⟨13, 2⟩, g.readPipe.toNat)] := rfl
  rw [hfit.toNat, hparts]
  simp only [partsSum, -Nat.reducePow]
  omega

/-! ### Timing words and colours (R42, R44, R119) -/

theorem sdtrWord_default {c : TimingSpecCycles} (hmrd : c.mrd < 16) (hxsr : c.xsr < 16) (hras : c.ras < 16)
    (hrc : c.rc < 16) (hwr : c.wr < 16) (hrp : c.rp < 16) (hrcd : c.rcd < 16) :
    (sdtrWord .default c).toNat = c.mrd + 16 * c.xsr + 256 * c.ras + 4096 * c.rc + 65536 * c.wr + 1048576 * c.rp +
      16777216 * c.rcd := by
  have hsum := PartsFit.toNat_of_eq (w := sdtrWord .default c) (l := [(⟨0, 4⟩, c.mrd), (⟨4, 4⟩, c.xsr), (⟨8, 4⟩, c.ras),
      (⟨12, 4⟩, c.rc), (⟨16, 4⟩, c.wr), (⟨20, 4⟩, c.rp), (⟨24, 4⟩, c.rcd)])
    ⟨show fieldsFit SdtrFields.default.all = true by decide, by simp [*]⟩
    (by simp [sdtrWord, putAll, BitVec.or_assoc, FieldMap.default, SdtrFields.default])
  rw [hsum]
  simp only [partsSum, -Nat.reducePow]
  omega

theorem sdrtrWord_default {r : BitVec 16} (hr : r.toNat < 2 ^ 13) : (sdrtrWord .default r).toNat = 2 * r.toNat :=
  (toNat_put (f := ⟨1, 13⟩) (by decide) hr).trans (Nat.mul_comm ..)

/-- In the default map a value of 24 bits is its own colour word. -/
theorem colourWord_default {k : Word} (hk : k.toNat < 2 ^ 24) : ColourFields.default.word k = k := by
  have hsum := PartsFit.toNat_of_eq (w := ColourFields.default.word k) (l := [(⟨0, 8⟩, (k.extractLsb' 0 8).toNat),
      (⟨8, 8⟩, (k.extractLsb' 8 8).toNat), (⟨16, 8⟩, (k.extractLsb' 16 8).toNat)])
    ⟨show fieldsFit ColourFields.default.all = true by decide,
      List.forall_mem_cons.2 ⟨BitVec.isLt _, List.forall_mem_cons.2 ⟨BitVec.isLt _,
        List.forall_mem_singleton.2 (BitVec.isLt _)⟩⟩⟩
    (by simp [ColourFields.word, putAll, BitVec.or_assoc, ColourFields.default])
  refine BitVec.eq_of_toNat_eq ?_
  rw [hsum]
  simp only [partsSum, BitVec.extractLsb'_toNat, Nat.shiftRight_eq_div_pow, -Nat.reducePow]
  omega

/-! ### The obligation -/

/-- Settles O41: the words are put together of parts that fit (`sdcrWord_parts`, `pairWord_get` and the words of the default map),
so the fields read the parts' values and the words are their sums. -/
theorem controlWordFields : Obligations.ControlWordFields := by
  refine ⟨?control, fun g w => sdcrWord_default, fun c => sdtrWord_default, fun r => sdrtrWord_default,
    fun h v => pairWord_default (by decide) (by decide), fun k => colourWord_default,
    fun stop start => pairWord_default (by decide) (by decide),
    fun stop start => pairWord_default (by decide) (by decide), ?window⟩
  case control =>
    intro p g w hp h hwp hrb
    obtain ⟨rfl, hfit⟩ := sdcrWord_parts hp h hwp hrb
    refine ⟨hfit.get ?_, hfit.get ?_, hfit.get ?_, hfit.get ?_, hfit.get ?_, hfit.get ?_, hfit.get ?_, hfit.get ?_,
      hfit.get ?_⟩
    all_goals simp [controlParts]
  case window =>
    intro p stop start hp
    exact ⟨pairWord_get (layoutOk_fits hp (r := .layer 1 .whpcr) (by decide)),
      pairWord_get (layoutOk_fits hp (r := .layer 1 .wvpcr) (by decide))⟩

end Sys2Proof.Machine
end

section
/-! PROOFS, family 40_cycle_clock: the rounding of R149 and the conversion of seconds in any binary format. -/

namespace Sys2Proof.Machine

/-! ### Rounding to a multiple (R149) -/

/-- `r` is the multiple of `u` nearest to `n`; of two at the same distance, the even one. -/
def NearestMultiple (u n r : Nat) : Prop :=
  u ∣ r ∧ 2 * r ≤ 2 * n + u ∧ 2 * n ≤ 2 * r + u ∧ (2 * r = 2 * n + u ∨ 2 * n = 2 * r + u → r / u % 2 = 0)

/-- Of `n = u * q + m` the nearest multiple is `u * q` or `u * (q + 1)`: the remainder decides, and the parity of `q` in the
middle. -/
theorem nearestMultiple_mul_iff {u q m k : Nat} (hm : m < u) :
    NearestMultiple u (u * q + m) (u * k) ↔ k = if u < 2 * m ∨ 2 * m = u ∧ q % 2 = 1 then q + 1 else q := by
  have hu : 0 < u := by omega
  rw [NearestMultiple, Nat.mul_div_cancel_left k hu]
  have mul_two_mul (a : Nat) : u * (2 * a) = 2 * (u * a) := Nat.mul_left_comm ..
  constructor
  · intro ⟨_, hle, hge, htie⟩
    have hqk : 2 * q < 2 * k + 2 := Nat.lt_of_mul_lt_mul_left (a := u) (by rw [Nat.mul_add, mul_two_mul, mul_two_mul]; omega)
    have hkq : 2 * k < 2 * q + 3 := Nat.lt_of_mul_lt_mul_left (a := u) (by rw [Nat.mul_add, mul_two_mul, mul_two_mul]; omega)
    obtain rfl | rfl : k = q ∨ k = q + 1 := by omega
    · split <;> omega
    · rw [Nat.mul_add] at hle hge htie
      split <;> omega
  · rintro rfl
    refine ⟨Nat.dvd_mul_right .., ?_⟩
    split
    · rw [Nat.mul_add]
      refine ⟨?_, ?_, ?_⟩ <;> omega
    · refine ⟨?_, ?_, ?_⟩ <;> omega

theorem nearestMultiple_iff {u n r : Nat} (hu : 0 < u) : NearestMultiple u n r ↔
    r = u * if u < 2 * (n % u) ∨ 2 * (n % u) = u ∧ n / u % 2 = 1 then n / u + 1 else n / u := by
  have hiff (k : Nat) := nearestMultiple_mul_iff (q := n / u) (k := k) (Nat.mod_lt n hu)
  rw [Nat.div_add_mod] at hiff
  constructor
  · intro h
    obtain ⟨k, rfl⟩ := h.1
    rw [← (hiff k).1 h]
  · rintro rfl
    exact (hiff _).2 rfl

/-! ### `roundNearestEven` (R149) -/

theorem roundNearestEven_eq (p n : Nat) : roundNearestEven p n =
    let u := 2 ^ (Nat.log2 n + 1 - p)
    u * if u < 2 * (n % u) ∨ 2 * (n % u) = u ∧ n / u % 2 = 1 then n / u + 1 else n / u := by
  have hr (u : Nat) : n - n / u * u = n % u := by rw [Nat.mul_comm, Nat.mod_eq_sub_mul_div]
  simp only [roundNearestEven, Nat.shiftLeft_eq, Nat.shiftRight_eq_div_pow, hr, gt_iff_lt, Nat.mul_comm (2 ^ _) (ite ..),
    ite_mul]

/-- A number of at most `p` bits is a multiple of the unit of its last place, which is 1. -/
theorem log2_succ_sub_eq_zero {p n : Nat} (hp : 1 ≤ p) (h : n < 2 ^ p) : Nat.log2 n + 1 - p = 0 := by
  rcases Nat.eq_zero_or_pos n with rfl | hn
  · rw [Nat.log2_zero]; omega
  · have := (Nat.log2_lt hn.ne').2 h
    omega

/-- Rounding to `p` bits is rounding to a multiple of the last place's unit, for numbers that have `p` bits as for others. -/
theorem isRounded_iff_nearestMultiple {p n r : Nat} (hp : 1 ≤ p) :
    IsRounded p n r ↔ NearestMultiple (2 ^ (Nat.log2 n + 1 - p)) n r := by
  rw [IsRounded]
  rcases Nat.lt_or_ge n (2 ^ p) with hlt | hge
  · rw [log2_succ_sub_eq_zero hp hlt, Nat.pow_zero, nearestMultiple_iff one_pos]
    simp [hlt, Nat.mod_one]
  · simp [hge, Nat.not_lt.2 hge, NearestMultiple]

theorem isRounded_iff {p n r : Nat} (hp : 1 ≤ p) : IsRounded p n r ↔ r = roundNearestEven p n := by
  rw [isRounded_iff_nearestMultiple hp, nearestMultiple_iff (Nat.two_pow_pos _), roundNearestEven_eq]

theorem roundNearestEven_zero {p : Nat} (hp : 1 ≤ p) : roundNearestEven p 0 = 0 :=
  ((isRounded_iff hp).1 ⟨fun _ => rfl, fun h => absurd h (Nat.not_le.2 (Nat.two_pow_pos p))⟩).symm

/-! ### The fields of an encoded value (R101) -/

/-- The encoding with sign `g`, exponent field `e` and fraction field `m`. -/
def FloatFormat.pack (F : FloatFormat) (g e m : Nat) : Nat := (g * 2 ^ F.expBits + e) * 2 ^ F.fracBits + m

section
variable {F : FloatFormat} {g e m : Nat}

theorem FloatFormat.pack_zero : F.pack 0 e m = e * 2 ^ F.fracBits + m := by
  rw [pack, Nat.zero_mul, Nat.zero_add]

theorem FloatFormat.pack_shift (hm : m < 2 ^ F.fracBits) : F.pack g e m >>> F.fracBits = g * 2 ^ F.expBits + e := by
  rw [pack, Nat.shiftRight_eq_div_pow, Nat.mul_comm, Nat.mul_add_div (Nat.two_pow_pos _), Nat.div_eq_of_lt hm, Nat.add_zero]

theorem FloatFormat.fracField_pack (hm : m < 2 ^ F.fracBits) : F.fracField (F.pack g e m) = m := by
  rw [fracField, pack, Nat.mul_add_mod_of_lt hm]

theorem FloatFormat.expField_pack (he : e < 2 ^ F.expBits) (hm : m < 2 ^ F.fracBits) : F.expField (F.pack g e m) = e := by
  rw [expField, pack_shift hm, Nat.mul_add_mod_of_lt he]

theorem FloatFormat.sign_pack (he : e < 2 ^ F.expBits) (hm : m < 2 ^ F.fracBits) : F.sign (F.pack g e m) = g % 2 := by
  rw [sign, Nat.shiftRight_add, pack_shift hm, Nat.shiftRight_eq_div_pow, Nat.mul_comm,
    Nat.mul_add_div (Nat.two_pow_pos _), Nat.div_eq_of_lt he, Nat.add_zero]

end

/-! ### Seconds to ticks in any binary format (R149) -/

section
variable {F : FloatFormat} {e m f : Nat}

theorem FloatFormat.magnitude_eq (b : Nat) : F.magnitude b =
    if F.expField b = 0 then F.fracField b else (2 ^ F.fracBits + F.fracField b) * 2 ^ (F.expField b - 1) := by
  rw [magnitude, Nat.shiftLeft_eq]

theorem FloatFormat.magnitude_eq_zero_iff {b : Nat} : F.magnitude b = 0 ↔ F.expField b = 0 ∧ F.fracField b = 0 := by
  rw [magnitude_eq]
  split <;> simp [*]

theorem FloatFormat.special_iff {b : Nat} : F.special b = true ↔ F.expField b = 2 ^ F.expBits - 1 := beq_iff_eq

theorem FloatFormat.isNaN_iff {b : Nat} :
    F.isNaN b = true ↔ F.expField b = 2 ^ F.expBits - 1 ∧ F.fracField b ≠ 0 := by
  rw [isNaN, Bool.and_eq_true, special_iff, bne_iff_ne]

/-- A value that is not negative and is not a number: infinity or NaN. -/
theorem FloatFormat.secsToTicks_of_special {b : Nat} (hsign : F.sign b = 0) (hs : F.special b = true) :
    F.secsToTicks b f = .error .badOperand := by
  simp [secsToTicks, hsign, hs]

/-- A negative value, zero apart: NaN is no number, and every other value is a negative duration (log 16 for minus
infinity). -/
theorem FloatFormat.secsToTicks_of_negative {b : Nat} (hsign : F.sign b = 1) (hz : F.expField b ≠ 0 ∨ F.fracField b ≠ 0) :
    F.secsToTicks b f = if F.isNaN b = true then .error .badOperand else .error .negativeDuration := by
  have hmag : F.magnitude b ≠ 0 := fun h => by
    obtain ⟨he, hm⟩ := magnitude_eq_zero_iff.1 h
    exact hz.elim (· he) (· hm)
  cases hn : F.isNaN b with
  | true => simp [secsToTicks, hsign, hn, special_iff.2 (isNaN_iff.1 hn).1]
  | false => simp [secsToTicks, hsign, hn, hmag]

/-- A finite value that is not below 0, minus zero too: the product, checked and truncated. -/
theorem FloatFormat.secsToTicks_of_finite {b : Nat} (hsign : F.sign b = 0 ∨ F.magnitude b = 0) (hs : F.special b = false) :
    F.secsToTicks b f =
      if 2 ^ (F.bias + 1 + F.scale) ≤ F.product b f then .error .badOperand
      else if 2 ^ (64 + F.scale) ≤ F.product b f then .error .overflow
      else .ok (BitVec.ofNat 64 (F.product b f / 2 ^ F.scale)) := by
  have hn : ¬ (F.sign b = 1 ∧ F.isNaN b = false ∧ (F.special b = true ∨ F.magnitude b ≠ 0)) := by
    rintro ⟨h1, -, h | h⟩
    · simp [hs] at h
    · exact hsign.elim (fun h0 => absurd (h0.symm.trans h1) (by decide)) h
  rw [secsToTicks, if_neg hn]
  simp only [hs, Bool.false_eq_true, if_false, ge_iff_le, Nat.shiftRight_eq_div_pow]

/-- The product is the one that the two roundings give. -/
theorem FloatFormat.product_eq {b rf P : Nat} (hrf : IsRounded (F.fracBits + 1) f rf)
    (hP : IsRounded (F.fracBits + 1) (F.magnitude b * rf) P) : F.product b f = P := by
  have hp : 1 ≤ F.fracBits + 1 := Nat.le_add_left ..
  rw [product, ← (isRounded_iff hp).1 hrf, ← (isRounded_iff hp).1 hP]

theorem FloatFormat.secsToTicks_finite {rf P : Nat} (he : e < 2 ^ F.expBits - 1) (hm : m < 2 ^ F.fracBits)
    (hrf : IsRounded (F.fracBits + 1) f rf)
    (hP : IsRounded (F.fracBits + 1) ((if e = 0 then m else (2 ^ F.fracBits + m) * 2 ^ (e - 1)) * rf) P) :
    F.secsToTicks (e * 2 ^ F.fracBits + m) f =
      if 2 ^ (F.bias + 1 + F.scale) ≤ P then .error .badOperand
      else if 2 ^ (64 + F.scale) ≤ P then .error .overflow
      else .ok (BitVec.ofNat 64 (P / 2 ^ F.scale)) := by
  have he' : e < 2 ^ F.expBits := by omega
  rw [← pack_zero]
  have hs : F.special (F.pack 0 e m) = false :=
    Bool.eq_false_iff.2 fun h => he.ne ((expField_pack he' hm).symm.trans (special_iff.1 h))
  have hmag : F.magnitude (F.pack 0 e m) = if e = 0 then m else (2 ^ F.fracBits + m) * 2 ^ (e - 1) := by
    rw [magnitude_eq, expField_pack he' hm, fracField_pack hm]
  rw [secsToTicks_of_finite (.inl (sign_pack he' hm)) hs, product_eq hrf (hmag ▸ hP)]

theorem FloatFormat.secsToTicks_special (hm : m < 2 ^ F.fracBits) :
    F.secsToTicks ((2 ^ F.expBits - 1) * 2 ^ F.fracBits + m) f = .error .badOperand := by
  have he : 2 ^ F.expBits - 1 < 2 ^ F.expBits := Nat.sub_one_lt (Nat.two_pow_pos _).ne'
  rw [← pack_zero]
  exact secsToTicks_of_special (sign_pack he hm) (special_iff.2 (expField_pack he hm))

/-- A value above minus zero's encoding has the sign bit and a bit below it: NaN above minus infinity's encoding, else a
negative duration. -/
theorem FloatFormat.secsToTicks_negative {b : Nat} (hlo : 2 ^ F.expBits * 2 ^ F.fracBits < b)
    (hhi : b < 2 * (2 ^ F.expBits * 2 ^ F.fracBits)) : F.secsToTicks b f =
      if 2 ^ F.expBits * 2 ^ F.fracBits + (2 ^ F.expBits - 1) * 2 ^ F.fracBits < b then .error .badOperand
      else .error .negativeDuration := by
  obtain ⟨x, hx, rfl⟩ : ∃ x, 0 < x ∧ 2 ^ F.expBits * 2 ^ F.fracBits + x = b :=
    ⟨b - 2 ^ F.expBits * 2 ^ F.fracBits, by omega, by omega⟩
  obtain ⟨e, m, hm, rfl⟩ : ∃ e m, m < 2 ^ F.fracBits ∧ e * 2 ^ F.fracBits + m = x :=
    ⟨_, _, Nat.mod_lt x (Nat.two_pow_pos _), Nat.div_add_mod' ..⟩
  have he : e < 2 ^ F.expBits := Nat.lt_of_mul_lt_mul_right (a := 2 ^ F.fracBits) (by omega)
  have hb : 2 ^ F.expBits * 2 ^ F.fracBits + (e * 2 ^ F.fracBits + m) = F.pack 1 e m := by
    rw [pack, Nat.one_mul, Nat.add_mul, Nat.add_assoc]
  have hz : e ≠ 0 ∨ m ≠ 0 := by
    by_contra! h
    simp [h] at hx
  have hnan : e = 2 ^ F.expBits - 1 ∧ m ≠ 0 ↔ (2 ^ F.expBits - 1) * 2 ^ F.fracBits < e * 2 ^ F.fracBits + m := by
    constructor
    · rintro ⟨rfl, hne⟩
      omega
    · intro h
      have hlt : 2 ^ F.expBits - 1 < e + 1 :=
        Nat.lt_of_mul_lt_mul_right (a := 2 ^ F.fracBits) (by rw [Nat.succ_mul]; omega)
      obtain rfl : e = 2 ^ F.expBits - 1 := by omega
      exact ⟨rfl, by omega⟩
  simp only [Nat.add_lt_add_iff_left]
  rw [hb, secsToTicks_of_negative (sign_pack he hm) (by rwa [expField_pack he hm, fracField_pack hm])]
  simp only [isNaN_iff, expField_pack he hm, fracField_pack hm, hnan]

theorem FloatFormat.secsToTicks_minusZero (hw : 1 < 2 ^ F.expBits) :
    F.secsToTicks (2 ^ F.expBits * 2 ^ F.fracBits) f = .ok 0 := by
  have hm : 0 < 2 ^ F.fracBits := Nat.two_pow_pos _
  have he : 0 < 2 ^ F.expBits := Nat.two_pow_pos _
  have hb : 2 ^ F.expBits * 2 ^ F.fracBits = F.pack 1 0 0 := by simp [pack]
  have hmag : F.magnitude (F.pack 1 0 0) = 0 := magnitude_eq_zero_iff.2 ⟨expField_pack he hm, fracField_pack hm⟩
  have hs : F.special (F.pack 1 0 0) = false := Bool.eq_false_iff.2 fun h => by
    have := (expField_pack he hm).symm.trans (special_iff.1 h)
    omega
  have hprod : F.product (F.pack 1 0 0) f = 0 := by
    rw [product, hmag, Nat.zero_mul, roundNearestEven_zero (Nat.le_add_left ..)]
  rw [hb, secsToTicks_of_finite (.inr hmag) hs, hprod]
  simp

end

/-! ### The obligation -/

theorem binary32_bias : binary32.bias + 1 = 128 := rfl
theorem binary32_scale : binary32.scale = 149 := rfl
theorem binary64_bias : binary64.bias + 1 = 1024 := rfl
theorem binary64_scale : binary64.scale = 1074 := rfl

/-- Settles O22: rounding is the choice of the nearest multiple (`isRounded_iff`), and the two formats obey the laws for
any binary format. -/
theorem roundsToNearestEven : Obligations.RoundsToNearestEven := by
  refine ⟨fun p n r => isRounded_iff, ?finite32, ?finite64, fun m f => FloatFormat.secsToTicks_special (F := binary32),
    fun m f => FloatFormat.secsToTicks_special (F := binary64), fun b f => FloatFormat.secsToTicks_negative (F := binary32),
    fun b f => FloatFormat.secsToTicks_negative (F := binary64),
    fun f => ⟨FloatFormat.secsToTicks_minusZero (F := binary32) (by decide),
      FloatFormat.secsToTicks_minusZero (F := binary64) (by decide)⟩⟩
  case finite32 =>
    intro e m f rf P he hm hrf hP
    rw [← binary32_bias, ← binary32_scale]
    exact FloatFormat.secsToTicks_finite (F := binary32) he hm hrf hP
  case finite64 =>
    intro e m f rf P he hm hrf hP
    rw [← binary64_bias, ← binary64_scale]
    exact FloatFormat.secsToTicks_finite (F := binary64) he hm hrf hP

end Sys2Proof.Machine
end

section
/-! PROOFS, family 40_cycle_clock: the operations of the CycleClock (R141, R142, R144, R147). The rules for one host step,
and for the two host steps of a RegModify, hold for every operation. -/

namespace Sys2Proof

/-- A flag that a RegModify sets is set (R15). -/
theorem BitField.isSet_modify_one {f : BitField} (w : Word) (hw : f.width = 1) (hle : f.pos + f.width ≤ 32) :
    f.isSet ((w &&& ~~~f.mask) ||| (f.put 1 &&& f.mask)) = true := by
  rw [isSet, get_modify f w _ hle, get_put_of_lt f 1 hle (by rw [hw]; decide)]
  rfl

namespace Machine

/-! ### One host step (R10, R11) -/

section
variable {s t o : State}

theorem continueOp_of_todo {h : HostStep} {rest : List HostStep} (e : s.ctx.todo = h :: rest) :
    s.continueOp = performStep s { s with ctx := { s.ctx with todo := rest } } h := by
  simp only [State.continueOp, e]

theorem performStep_of_done {h : HostStep} (e : doAct h.act s = .done t) :
    performStep o s h = (t.enterPhase h.phase).settle := by
  simp only [performStep, e]

/-- The read of a RegModify: the word that the running code goes on with is the known part of what it read. -/
theorem continueOp_read {r : Reg} {a : HostStep} {rest : List HostStep}
    (e : s.ctx.todo = ⟨.read r, none, none⟩ :: a :: rest) :
    s.continueOp = { s.regRead r with ctx := { s.ctx with todo := a :: rest, latch := s.regKnown r, setupStep := a.sub } } := by
  rw [continueOp_of_todo e, performStep_of_done rfl]
  rfl

theorem continueOp_writeMod {r : Reg} {m v : Word} {rest : List HostStep}
    (e : s.ctx.todo = ⟨.writeMod r m v, none, none⟩ :: rest)
    (hw : { s with ctx := { s.ctx with todo := rest } }.regWrite r ((s.ctx.latch &&& ~~~m) ||| (v &&& m)) = .ok t) :
    s.continueOp = t.settle := by
  rw [continueOp_of_todo e, performStep_of_done (t := t)]
  · rfl
  · simp only [doAct, writeAct, hw]

/-- `RegModify` of one field (R15, R84): after the read the write is still to be made; after the write the operation goes on
with what follows, and the word read stands in the latch. -/
theorem continueOp_setField {r : Reg} {f : BitField} {v : Nat} {rest : List HostStep}
    (e : s.ctx.todo = plainSteps (setFieldActs r f v) ++ rest)
    (hw : { s.regRead r with ctx := { s.ctx with todo := rest, latch := s.regKnown r, setupStep := none } }.regWrite r
      ((s.regKnown r &&& ~~~f.mask) ||| (f.put v &&& f.mask)) = .ok t) :
    s.continueOp.ctx.todo ≠ [] ∧ s.continueOp.continueOp = t.settle := by
  have hread := continueOp_read e
  refine ⟨by simp [hread], ?_⟩
  rw [hread]
  exact continueOp_writeMod rfl hw

end

/-! ### The enable bits of the counter (R36, R144) -/

section
variable {s : State} (h : s.params.layoutOk = true)
include h

theorem regWrite_setTrcena (w : Word) : s.regWrite .demcr
    ((w &&& ~~~s.fields.trcena.mask) ||| (s.fields.trcena.put 1 &&& s.fields.trcena.mask)) =
      .ok { s with trcena := true } := by
  have hw : s.fields.trcena.width = 1 := layoutOk_width h (by simp [FieldMap.fixedWidths])
  have hle := fieldsFit_le (layoutOk_fits h (r := .demcr) (by decide)) List.mem_cons_self
  simp only [State.regWrite, BitField.isSet_modify_one w hw hle]

theorem regWrite_setCyccntena (w : Word) : s.regWrite .dwtCtrl
    ((w &&& ~~~s.fields.cyccntena.mask) ||| (s.fields.cyccntena.put 1 &&& s.fields.cyccntena.mask)) =
      .ok { s with cyccntena := true } := by
  have hw : s.fields.cyccntena.width = 1 := layoutOk_width h (by simp [FieldMap.fixedWidths])
  have hle := fieldsFit_le (layoutOk_fits h (r := .dwtCtrl) (by decide)) List.mem_cons_self
  simp only [State.regWrite, BitField.isSet_modify_one w hw hle]

/-- What the two host steps of a RegModify of TRCENA make of the state. -/
theorem continueOp_setTrcena {rest : List HostStep}
    (e : s.ctx.todo = plainSteps (setFieldActs .demcr s.fields.trcena 1) ++ rest) :
    s.continueOp.ctx.todo ≠ [] ∧ s.continueOp.continueOp = State.settle { s.regRead .demcr with
      trcena := true, ctx := { s.ctx with todo := rest, latch := s.regKnown .demcr, setupStep := none } } :=
  continueOp_setField e (regWrite_setTrcena (by exact h) _)

/-- What the two host steps of a RegModify of CYCCNTENA make of the state. -/
theorem continueOp_setCyccntena {rest : List HostStep}
    (e : s.ctx.todo = plainSteps (setFieldActs .dwtCtrl s.fields.cyccntena 1) ++ rest) :
    s.continueOp.ctx.todo ≠ [] ∧ s.continueOp.continueOp = State.settle { s.regRead .dwtCtrl with
      cyccntena := true, ctx := { s.ctx with todo := rest, latch := s.regKnown .dwtCtrl, setupStep := none } } :=
  continueOp_setField e (regWrite_setCyccntena (by exact h) _)

end

/-! ### The states that CC_ENABLE passes through (R144) -/

/-- At the first of CC_ENABLE's four host steps. -/
def State.ccEnableBegun (s : State) : State := { s with ctx := { todo := plainSteps (ccEnableActs s.fields) } }

/-- CC_ENABLE with TRCENA set: two of its four host steps made. -/
def State.ccEnableHalfway (s : State) : State :=
  { s.regRead .demcr with
    trcena := true
    ctx := { todo := plainSteps (setFieldActs .dwtCtrl s.fields.cyccntena 1), latch := s.regKnown .demcr } }

theorem exec_ccEnable (s : State) : exec .ccEnable s = .next s.ccEnableBegun.continueOp := rfl

section
variable {s : State} (h : s.params.layoutOk = true)
include h

theorem ccEnableBegun_continueOp :
    s.ccEnableBegun.continueOp.ctx.todo ≠ [] ∧ s.ccEnableBegun.continueOp.continueOp = s.ccEnableHalfway :=
  continueOp_setTrcena (s := s.ccEnableBegun) h rfl

theorem ccEnableHalfway_continueOp :
    s.ccEnableHalfway.continueOp.ctx.todo ≠ [] ∧ s.ccEnableHalfway.continueOp.continueOp =
      { (s.regRead .demcr).regRead .dwtCtrl with trcena := true, cyccntena := true, ctx := Ctx.idle } :=
  continueOp_setCyccntena (s := s.ccEnableHalfway) h rfl

end

/-! ### Ticks of a duration (R146 to R149) -/

theorem nanosToTicks_eq (n : DWord) (f : Word) : nanosToTicks n f =
    if n.toNat * f.toNat / 10 ^ 9 < 2 ^ 64 then .ok (BitVec.ofNat 64 (n.toNat * f.toNat / 10 ^ 9)) else .error .overflow := rfl

/-- What DUR_TO_TICKS does with a conversion (R147): a result, the error value as a result, or a refusal. -/
def State.takeConversion (s : State) : Conversion → State
  | .ticks t => s.setRes (.okTicks t)
  | .noFrequency => s.setRes .errNoFrequency
  | .refused r => s.refuse r

theorem durationTicks_nanos (n : DWord) (f : Word) :
    durationTicks ⟨.nanos n, some f⟩ = conversionOf (nanosToTicks n f) := rfl

theorem durationTicks_secs32 (x f : Word) :
    durationTicks ⟨.secs32 x, some f⟩ = conversionOf (binary32.secsToTicks x.toNat f.toNat) := rfl

theorem durationTicks_secs64 (x : DWord) (f : Word) :
    durationTicks ⟨.secs64 x, some f⟩ = conversionOf (binary64.secsToTicks x.toNat f.toNat) := rfl

theorem exec_durToTicks_zero (s : State) (form : DurForm) :
    exec (.durToTicks ⟨form, some 0⟩) s = .next (s.refuse .badOperand) := rfl

theorem exec_durToTicks {d : Duration} (s : State) (h : d.freq ≠ some 0) :
    exec (.durToTicks d) s = .next (s.takeConversion (durationTicks d)) := by
  have hok : durationOk d = true := by
    cases hf : d.freq with
    | none => simp only [durationOk, hf]
    | some f => simpa [durationOk, hf, hzOk] using h
  simp only [exec, execDurToTicks, hok, Bool.not_true, Bool.false_eq_true, if_false]
  cases durationTicks d <;> rfl

/-! ### The obligations -/

/-- Settles O18: both operations sample the counter once, and the subtraction of words is the one modulo 2^32. -/
theorem counterReadings : Obligations.CounterReadings := by
  intro s since
  refine ⟨rfl, rfl, rfl, rfl, ?difference, ?counts, ?disabled⟩
  case difference => bv_omega
  case counts =>
    intro ht hc
    have hnext : BitVec.ofNat 32 (s.cyccnt.toNat + 1) = s.cyccnt + 1 := by bv_omega
    simp only [State.tickStep, State.counterEnabled, ht, hc, Bool.and_true, if_true, hnext]
  case disabled =>
    rintro (h | h) <;> simp [State.tickStep, State.counterEnabled, h]

/-- Settles O19: CC_ENABLE is a RegModify of TRCENA (`ccEnableBegun_continueOp`) and then one of CYCCNTENA
(`ccEnableHalfway_continueOp`), of two host steps each. -/
theorem ccEnableResult : Obligations.CcEnableResult := by
  intro s h
  obtain ⟨todo₁, halfway⟩ := ccEnableBegun_continueOp h
  obtain ⟨todo₃, finished⟩ := ccEnableHalfway_continueOp h
  refine ⟨rfl, _, exec_ccEnable s, fun k hk => ?_, ?_⟩
  · match k, hk with
    | 0, _ => exact todo₁
    | 1, _ =>
      rw [State.continueFor, State.continueFor, halfway]
      exact List.cons_ne_nil _ _
    | 2, _ =>
      rw [State.continueFor, State.continueFor, State.continueFor, halfway]
      exact todo₃
  · rw [State.continueFor, halfway]
    exact finished

/-- Settles O21: the operation takes the conversion of `durationTicks` (`exec_durToTicks`), whose forms are R147's. -/
theorem durToTicksResult : Obligations.DurToTicksResult := by
  intro s f fo hf hfo
  have hf' : some f ≠ some 0 := fun h => hf (Option.some.inj h)
  have hnone : (none : Option Word) ≠ some 0 := nofun
  refine ⟨fun t => exec_durToTicks s hfo, fun n => exec_durToTicks s hnone, fun x => exec_durToTicks s hnone,
    fun x => exec_durToTicks s hnone, ?nanos, ?ok32, ?ok64, ?error32, ?error64, exec_durToTicks_zero s⟩
  case nanos =>
    intro n q
    rw [exec_durToTicks s hf', durationTicks_nanos, nanosToTicks_eq]
    split <;> rfl
  case ok32 | error32 =>
    intro x _ h
    rw [exec_durToTicks s hf', durationTicks_secs32, h]
    rfl
  case ok64 | error64 =>
    intro x _ h
    rw [exec_durToTicks s hf', durationTicks_secs64, h]
    rfl

end Machine
end Sys2Proof
end

section
/-! PROOFS, family 41_delay: the first host step of a delay (R161, R165 to R169, R172) and one poll of it (R161 to R163), one
lemma per outcome. -/

namespace Sys2Proof.Machine

/-! ### The first host step (R161, R172) -/

section
variable {s : State} {t : DWord}

theorem doAct_delayStart_of_enabled (ht : t ≠ 0) (h : s.counterEnabled = true) :
    doAct (.delayStart t) s = .done (s.sample.setWait (some ⟨s.cyccnt, t, subWait t⟩)) := by
  simp only [doAct, delayStart, h, ht, Bool.true_eq_false, and_false, if_false]

theorem doAct_delayStart_of_disabled (ht : t ≠ 0) (h : s.counterEnabled = false) :
    doAct (.delayStart t) s = .stop (.refuse .counterDisabled) :=
  if_pos ⟨ht, h⟩

theorem beginDelay_zero (s : State) : s.beginDelay 0 = s.delayBegun 0 := rfl

theorem beginDelay_of_ne_zero (s : State) (ht : t ≠ 0) : s.beginDelay t =
    performStep s { s with ctx := { Ctx.idle with todo := plainSteps [.delayPoll] } } ⟨.delayStart t, none, none⟩ := by
  simp only [State.beginDelay, delayActs, ht, if_false]
  rfl

theorem beginDelay_of_enabled (h : t = 0 ∨ s.counterEnabled = true) : s.beginDelay t = s.delayBegun t := by
  by_cases ht : t = 0
  · subst ht
    exact beginDelay_zero s
  · have hc : s.counterEnabled = true := h.resolve_left ht
    rw [beginDelay_of_ne_zero s ht, performStep_of_done (doAct_delayStart_of_enabled ht (by exact hc))]
    simp only [State.delayBegun, ht, if_false]
    rfl

theorem beginDelay_of_disabled (ht : t ≠ 0) (h : s.counterEnabled = false) : s.beginDelay t = s.refuse .counterDisabled := by
  rw [beginDelay_of_ne_zero s ht, performStep, doAct_delayStart_of_disabled ht (by exact h)]
  rfl

end

/-! ### The number of ticks (R165 to R169) -/

theorem unitTicks_of_eq {n clk : Word} {per : Nat} {t : DWord} (h : n.toNat * clk.toNat / per = t.toNat) :
    unitTicks n clk per = t := by
  rw [unitTicks, h, BitVec.ofNat_toNat, BitVec.setWidth_eq]

/-- What DLY_DURATION does with a conversion (R169): the delay, or a mark. -/
def State.delayConversion (s : State) : Conversion → State
  | .ticks t => s.beginDelay t
  | .noFrequency => s.raiseFault .conversionFailure
  | .refused r => s.refuse r

theorem durationOk_of_freq_ne_zero {d : Duration} (h : d.freq ≠ some 0) : durationOk d = true := by
  cases hf : d.freq with
  | none => simp only [durationOk, hf]
  | some f =>
    simp only [durationOk, hf]
    exact hzOk_of_ne_zero fun h0 => h (by rw [hf, h0])

theorem exec_dlyDuration {d : Duration} (s : State) (h : d.freq ≠ some 0) :
    exec (.dlyDuration d) s = .next (s.delayConversion (durationTicks d)) := by
  simp only [exec, execDlyDuration, durationOk_of_freq_ne_zero h, Bool.not_true, Bool.false_eq_true, if_false]
  cases durationTicks d <;> rfl

theorem delayConversion_conversionOf (s : State) (e : Except Refusal DWord) :
    s.delayConversion (conversionOf e) = s.beginDelayOf e := by
  cases e <;> rfl

theorem nanosToTicks_of_eq {n : DWord} {f : Word} {t : DWord} (h : n.toNat * f.toNat / 10 ^ 9 = t.toNat) :
    nanosToTicks n f = .ok t := by
  rw [nanosToTicks_eq, h, if_pos t.isLt, BitVec.ofNat_toNat, BitVec.setWidth_eq]

theorem nanosToTicks_overflow {n : DWord} {f : Word} (h : 2 ^ 64 ≤ n.toNat * f.toNat / 10 ^ 9) :
    nanosToTicks n f = .error .overflow := by
  rw [nanosToTicks_eq, if_neg (Nat.not_lt.2 h)]

section
variable {s : State} {e : Except Refusal DWord}

theorem exec_dlyUs {n : Word} {t : DWord} (h : n.toNat * s.params.clkHz.toNat / 10 ^ 6 = t.toNat) :
    exec (.dlyUs n) s = .next (s.beginDelay t) := by
  rw [← unitTicks_of_eq h]
  rfl

theorem exec_dlyMs {n : Word} {t : DWord} (h : n.toNat * s.params.clkHz.toNat / 10 ^ 3 = t.toNat) :
    exec (.dlyMs n) s = .next (s.beginDelay t) := by
  rw [← unitTicks_of_eq h]
  rfl

theorem exec_dlySF32 {x : Word} (h : binary32.secsToTicks x.toNat s.params.clkHz.toNat = e) :
    exec (.dlySF32 x) s = .next (s.beginDelayOf e) := by
  rw [← h]
  rfl

theorem exec_dlySF64 {x : DWord} (h : binary64.secsToTicks x.toNat s.params.clkHz.toNat = e) :
    exec (.dlySF64 x) s = .next (s.beginDelayOf e) := by
  rw [← h]
  rfl

/-- DLY_DURATION of a form that its own frequency converts (R147). -/
theorem exec_dlyDuration_conversion {form : DurForm} {f : Word} (hf : f ≠ 0)
    (h : durationTicks ⟨form, some f⟩ = conversionOf e) :
    exec (.dlyDuration ⟨form, some f⟩) s = .next (s.beginDelayOf e) := by
  rw [exec_dlyDuration s fun h0 => hf (Option.some.inj h0), h, delayConversion_conversionOf]

theorem exec_dlyDuration_nanos {n : DWord} {f : Word} (hf : f ≠ 0) (h : nanosToTicks n f = e) :
    exec (.dlyDuration ⟨.nanos n, some f⟩) s = .next (s.beginDelayOf e) :=
  exec_dlyDuration_conversion hf (by rw [durationTicks_nanos, h])

theorem exec_dlyDuration_secs32 {x f : Word} (hf : f ≠ 0) (h : binary32.secsToTicks x.toNat f.toNat = e) :
    exec (.dlyDuration ⟨.secs32 x, some f⟩) s = .next (s.beginDelayOf e) :=
  exec_dlyDuration_conversion hf (by rw [durationTicks_secs32, h])

theorem exec_dlyDuration_secs64 {x : DWord} {f : Word} (hf : f ≠ 0) (h : binary64.secsToTicks x.toNat f.toNat = e) :
    exec (.dlyDuration ⟨.secs64 x, some f⟩) s = .next (s.beginDelayOf e) :=
  exec_dlyDuration_conversion hf (by rw [durationTicks_secs64, h])

end

/-- Settles O23: each operation begins the delay that its operand converts to (one lemma each), and the first host step of the
wait is the same for all six. -/
theorem delaysBegin : Obligations.DelaysBegin := by
  refine ⟨fun s t i h => ?begins, fun s r => ⟨fun _ h => exec_dlySF32 h, fun _ h => exec_dlySF64 h,
    fun _ _ hf h => exec_dlyDuration_secs32 hf h, fun _ _ hf h => exec_dlyDuration_secs64 hf h⟩,
    fun s => ⟨fun n f h => ?overflow, fun _ => rfl, fun _ => rfl, fun _ => rfl, fun _ => rfl⟩⟩
  case begins =>
    have hexec : exec i s = .next (s.beginDelay t) := by
      obtain rfl | ⟨n, rfl, hn⟩ | ⟨n, rfl, hn⟩ | ⟨x, rfl, hx⟩ | ⟨x, rfl, hx⟩ | ⟨f, rfl, hf⟩ | ⟨n, f, rfl, hf, hn⟩ |
        ⟨x, f, rfl, hf, hx⟩ | ⟨x, f, rfl, hf, hx⟩ := h
      · rfl
      · exact exec_dlyUs hn
      · exact exec_dlyMs hn
      · exact exec_dlySF32 hx
      · exact exec_dlySF64 hx
      · exact exec_dlyDuration s hf
      · exact exec_dlyDuration_nanos hf (nanosToTicks_of_eq hn)
      · exact exec_dlyDuration_secs32 hf hx
      · exact exec_dlyDuration_secs64 hf hx
    exact ⟨fun hc => hexec.trans (congrArg _ (beginDelay_of_enabled hc)),
      fun ht hc => hexec.trans (congrArg _ (beginDelay_of_disabled ht hc))⟩
  case overflow =>
    have hf : f ≠ 0 := by
      rintro rfl
      simp at h
    exact exec_dlyDuration_nanos hf (nanosToTicks_overflow h)

/-! ### One poll (R161 to R163) -/

section
variable {s : State} {h : HostStep} {rest : List HostStep} {w : WaitRegs}

/-- A host step that holds leaves the host steps still to be made. -/
theorem continueOp_of_stay {t : State} (ht : s.ctx.todo = h :: rest)
    (e : doAct h.act { s with ctx := { s.ctx with todo := rest } } = .stay t) :
    s.continueOp = { t with ctx := { t.ctx with todo := s.ctx.todo, setupStep := h.sub } } := by
  rw [continueOp_of_todo ht, performStep, e, ht, ← show t.ctx.todo = rest from doAct_stay_todo e]
  rfl

variable (ha : h.act = .delayPoll) (ht : s.ctx.todo = h :: rest) (hw : s.ctx.wait = some w)
include ha ht hw

/-- Before the end of the sub-wait the poll holds. -/
theorem continueOp_delayPoll_holds (he : (s.cyccnt - w.start).toNat < w.sub.toNat) :
    s.continueOp = { s.regRead .dwtCyccnt with ctx := { s.ctx with setupStep := h.sub } } := by
  rw [continueOp_of_stay (t := { s with ctx := { s.ctx with todo := rest } }.sample) ht]
  · rfl
  · simp only [ha, doAct, delayPoll, hw, he, if_true]

/-- At the end of a sub-wait that is not the last the reference moves on by its length (R162). -/
theorem continueOp_delayPoll_goesOn (he : w.sub.toNat ≤ (s.cyccnt - w.start).toNat)
    (hr : w.rem - w.sub.setWidth 64 ≠ 0) : s.continueOp =
      { s.regRead .dwtCyccnt with ctx := { s.ctx with
          wait := some ⟨w.start + w.sub, w.rem - w.sub.setWidth 64, subWait (w.rem - w.sub.setWidth 64)⟩
          setupStep := h.sub } } := by
  rw [continueOp_of_stay (t := { s with ctx := { s.ctx with todo := rest } }.sample.setWait
    (some ⟨w.start + w.sub, w.rem - w.sub.setWidth 64, subWait (w.rem - w.sub.setWidth 64)⟩)) ht]
  · rfl
  · simp only [ha, doAct, delayPoll, hw, Nat.not_lt.2 he, hr, if_false]

/-- At the end of the last sub-wait the delay returns. -/
theorem continueOp_delayPoll_ends (he : w.sub.toNat ≤ (s.cyccnt - w.start).toNat) (hr : w.rem - w.sub.setWidth 64 = 0) :
    s.continueOp = (({ s with ctx := { s.ctx with todo := rest } }.sample.setWait none).enterPhase h.phase).settle := by
  rw [continueOp_of_todo ht, performStep_of_done]
  simp only [ha, doAct, delayPoll, hw, Nat.not_lt.2 he, hr, if_false, if_true]

end

/-- Settles O24: the three outcomes of a poll, one lemma each; the position of a delay has LT_SETUP_STEP as the poll has it. -/
theorem delayPollResult : Obligations.DelayPollResult := by
  intro s w h rest ha hp hctx e rem
  have ht : s.ctx.todo = h :: rest := by rw [hctx]
  have hw : s.ctx.wait = some w := by rw [hctx]
  have hsub : s.ctx.setupStep = h.sub := by rw [hctx]
  refine ⟨fun he => ?holds, fun he hr => ?goesOn, fun he hr hrest => ?ends⟩
  case holds => rw [continueOp_delayPoll_holds ha ht hw he, ← hsub]; rfl
  case goesOn => rw [continueOp_delayPoll_goesOn ha ht hw he hr, ← hsub]; rfl
  case ends => rw [continueOp_delayPoll_ends ha ht hw he hr, hp, hrest]; rfl

/-! ### A delay of one sub-wait (R161) -/

theorem tickStep_of_enabled {s : State} (h : s.counterEnabled = true) : s.tickStep = { s with cyccnt := s.cyccnt + 1 } :=
  if_pos h

/-- While the counter runs it moves by the number of TICK steps, and nothing else moves (R31). -/
theorem iterState_tickStep {s : State} (h : s.counterEnabled = true) (k : Nat) :
    iterState State.tickStep k s = { s with cyccnt := s.cyccnt + BitVec.ofNat 32 k } := by
  induction k generalizing s with
  | zero => simp [iterState]
  | succ k ih =>
    have hnext : s.cyccnt + 1 + BitVec.ofNat 32 k = s.cyccnt + BitVec.ofNat 32 (k + 1) := by
      rw [BitVec.add_assoc, Nat.add_comm k, BitVec.ofNat_add]; rfl
    calc iterState State.tickStep (k + 1) s
      _ = iterState State.tickStep k { s with cyccnt := s.cyccnt + 1 } := by rw [iterState, tickStep_of_enabled h]
      _ = { s with cyccnt := s.cyccnt + 1 + BitVec.ofNat 32 k } := ih h
      _ = { s with cyccnt := s.cyccnt + BitVec.ofNat 32 (k + 1) } := by rw [hnext]

theorem delayBegun_ctx {s : State} {t : DWord} (ht : t ≠ 0) : (s.delayBegun t).ctx =
    { todo := [⟨.delayPoll, none, none⟩], latch := 0, wait := some ⟨s.cyccnt, t, subWait t⟩, setupStep := none } := by
  simp only [State.delayBegun, ht, if_false]
  rfl

theorem subWait_toNat (rem : DWord) : (subWait rem).toNat = min rem.toNat Config.delayChunk := by
  rw [subWait, BitVec.toNat_ofNat, Config.delayChunk]
  omega

/-- A delay of at most DELAY_CHUNK ticks is one sub-wait. -/
theorem subWait_toNat_of_lt {t : DWord} (h : t.toNat < 2 ^ 31) : (subWait t).toNat = t.toNat :=
  (subWait_toNat t).trans (Nat.min_eq_left (Nat.le_sub_one_of_lt h))

/-- Settles O25: the one sub-wait is as long as the delay (`subWait_toNat_of_lt`), and the poll sees the number of TICK steps
since the reference (`iterState_tickStep`), as long as that is below 2^32. -/
theorem delayReturns : Obligations.DelayReturns := by
  intro s t hc ht hlt
  have hsub := subWait_toNat_of_lt hlt
  have hctx := delayBegun_ctx (s := s) ht
  have hrun (k : Nat) := iterState_tickStep (s := s.delayBegun t) hc k
  have helapsed {k : Nat} (hk : k < 2 ^ 32) :
      ((iterState State.tickStep k (s.delayBegun t)).cyccnt - s.cyccnt).toNat = k := by
    have hcount : (iterState State.tickStep k (s.delayBegun t)).cyccnt = s.cyccnt + BitVec.ofNat 32 k := by rw [hrun]; rfl
    rw [hcount, BitVec.add_comm, BitVec.add_sub_cancel, BitVec.toNat_ofNat, Nat.mod_eq_of_lt hk]
  have hlast : t - (subWait t).setWidth 64 = 0 := by bv_omega
  have poll (k : Nat) := delayPollResult (iterState State.tickStep k (s.delayBegun t)) ⟨s.cyccnt, t, subWait t⟩
    ⟨.delayPoll, none, none⟩ [] rfl rfl (by simp only [hrun, hctx])
  constructor
  · intro k hk
    obtain ⟨holds, -, -⟩ := poll k
    have hearly : ((iterState State.tickStep k (s.delayBegun t)).cyccnt - s.cyccnt).toNat < (subWait t).toNat := by
      rwa [helapsed (by omega), hsub]
    rw [holds hearly, hrun]
    rfl
  · intro k hle hk
    obtain ⟨-, -, ends⟩ := poll k
    have hover : (subWait t).toNat ≤ ((iterState State.tickStep k (s.delayBegun t)).cyccnt - s.cyccnt).toNat := by
      rwa [helapsed hk, hsub]
    rw [ends hover hlast rfl, hrun]
    rfl

end Sys2Proof.Machine
end

section
/-! PROOFS, family 41_delay: the lower bound of a delay (R164). The wait registers say how many TICK steps are still due
(`TicksDue`), a poll keeps that number or finds it 0, and a step of any other kind leaves the code that waits where it is
(`step_codeMove`). -/

namespace Sys2Proof.Machine

/-! ### Ticks still due -/

/-- At least `m` TICK steps are still due to a delay with the wait registers `w`, the counter at `c`: of the `w.rem` ticks from
the reference on, `e` have happened, whatever the counter's wraparounds. -/
def TicksDue (m : Nat) (c : Word) (w : WaitRegs) : Prop :=
  w.sub = subWait w.rem ∧ ∃ e, c = w.start + BitVec.ofNat 32 e ∧ m = w.rem.toNat - e

section
variable {m : Nat} {c : Word} {w : WaitRegs}

theorem ticksDue_begun (c : Word) (t : DWord) : TicksDue t.toNat c ⟨c, t, subWait t⟩ :=
  ⟨rfl, 0, by simp, rfl⟩

theorem TicksDue.tick (h : TicksDue m c w) : TicksDue (m - 1) (c + 1) w := by
  obtain ⟨hsub, e, rfl, rfl⟩ := h
  exact ⟨hsub, e + 1, by rw [BitVec.ofNat_add, BitVec.add_assoc]; rfl, Nat.sub_sub ..⟩

/-- A count that stands at least the sub-wait from the reference, modulo 2^32, has moved by at least the sub-wait (R164). -/
theorem TicksDue.elapsed (h : TicksDue m c w) (hle : w.sub.toNat ≤ (c - w.start).toNat) :
    ∃ d, c = w.start + w.sub + BitVec.ofNat 32 d ∧ m = w.rem.toNat - (w.sub.toNat + d) := by
  obtain ⟨-, e, rfl, rfl⟩ := h
  rw [BitVec.add_comm, BitVec.add_sub_cancel, BitVec.toNat_ofNat] at hle
  obtain ⟨d, rfl⟩ := Nat.exists_eq_add_of_le (hle.trans (Nat.mod_le e _))
  exact ⟨d, by rw [BitVec.ofNat_add, BitVec.ofNat_toNat, BitVec.setWidth_eq, BitVec.add_assoc], rfl⟩

theorem TicksDue.rem_sub_toNat (h : TicksDue m c w) :
    (w.rem - w.sub.setWidth 64).toNat = w.rem.toNat - w.sub.toNat := by
  obtain ⟨hsub, -⟩ := h
  have hle : w.sub.toNat ≤ w.rem.toNat := by
    rw [hsub, subWait_toNat]
    exact Nat.min_le_left ..
  bv_omega

/-- The chained reference is not later than the true count (R162, R164). -/
theorem TicksDue.nextSubWait (h : TicksDue m c w) (hle : w.sub.toNat ≤ (c - w.start).toNat) :
    TicksDue m c ⟨w.start + w.sub, w.rem - w.sub.setWidth 64, subWait (w.rem - w.sub.setWidth 64)⟩ := by
  obtain ⟨d, hc, hm⟩ := h.elapsed hle
  exact ⟨rfl, d, hc, by rw [hm, h.rem_sub_toNat, Nat.sub_sub]⟩

theorem TicksDue.eq_zero (h : TicksDue m c w) (hle : w.sub.toNat ≤ (c - w.start).toNat)
    (hr : w.rem - w.sub.setWidth 64 = 0) : m = 0 := by
  obtain ⟨d, -, hm⟩ := h.elapsed hle
  have hrem : 0 = w.rem.toNat - w.sub.toNat := by
    rw [← h.rem_sub_toNat, hr]
    rfl
  rw [hm, ← Nat.sub_sub, ← hrem, Nat.zero_sub]

/-- A poll that does not end the delay leaves as many ticks due. -/
theorem continueOp_delayPoll_due {s : State} {h : HostStep} {rest : List HostStep} (ha : h.act = .delayPoll)
    (ht : s.ctx.todo = h :: rest) (hw : s.ctx.wait = some w) (hd : TicksDue m s.cyccnt w) :
    m = 0 ∨ s.continueOp.ctx.todo = h :: rest ∧ ∃ w', s.continueOp.ctx.wait = some w' ∧ TicksDue m s.cyccnt w' := by
  rcases Nat.lt_or_ge (s.cyccnt - w.start).toNat w.sub.toNat with he | he
  · rw [continueOp_delayPoll_holds ha ht hw he]
    exact .inr ⟨ht, w, hw, hd⟩
  · by_cases hr : w.rem - w.sub.setWidth 64 = 0
    · exact .inl (hd.eq_zero he hr)
    · rw [continueOp_delayPoll_goesOn ha ht hw he hr]
      exact .inr ⟨ht, _, rfl, hd.nextSubWait he⟩

end

/-! ### The code that waits (R344, R347) -/

/-- The position of the host's code (`none`), or of interrupt code in the activation `a` (`some a`), is `c`. -/
def State.CodeAt (s : State) : Option Activation → Ctx → Prop
  | none, c => s.hostCtx = c
  | some a, c => s.irq = some a ∧ s.ctx = c

/-- What a step can do to the position of code in the middle of an operation: the code stays, or makes its next host step, and
unless that is the operation's last the code is then where the step has left it. -/
inductive CodeMove (q : Option Activation) (c : Ctx) (s t : State) : Prop where
  | stays : t.CodeAt q c → CodeMove q c s t
  | goesOn : s.ctx = c → (s.continueOp.ctx.todo ≠ [] → t.CodeAt q s.continueOp.ctx) → CodeMove q c s t

section
variable {s t : State} {q : Option Activation} {a : Activation} {c : Ctx}

theorem hostCtx_of_none (h : s.irq = none) : s.hostCtx = s.ctx := by
  simp only [State.hostCtx, h]

theorem hostCtx_of_some (h : s.irq = some a) : s.hostCtx = a.saved := by
  simp only [State.hostCtx, h]

theorem State.CodeAt.congr (h : s.CodeAt q c) (hctx : t.ctx = s.ctx) (hirq : t.irq = s.irq) : t.CodeAt q c := by
  cases q with
  | none => simpa only [State.CodeAt, State.hostCtx, hctx, hirq] using h
  | some a => simpa only [State.CodeAt, hctx, hirq] using h

theorem IrqWork.saved {v : State} {b : Activation} (w : IrqWork s a b v) : b.saved = a.saved := by
  cases w <;> rfl

/-- A host step goes on with the host's code, or leaves every position. -/
theorem hostStep_codeMove (hq : s.CodeAt q c) (hc : c.todo ≠ []) (e : hostStepWith exec s = .next t) : CodeMove q c s t := by
  cases hi : s.irq with
  | some b =>
    rw [hostStep_preempted (by rw [hi]; exact Option.some_ne_none b)] at e
    cases e
    exact .stays hq
  | none =>
    cases q with
    | some a => exact absurd (hi.symm.trans hq.1) (Option.some_ne_none a).symm
    | none =>
      obtain rfl : s.ctx = c := (hostCtx_of_none hi).symm.trans hq
      cases hostStep_move e with
      | idle => exact .stays hq
      | goOn _ => exact .goesOn rfl fun _ => hostCtx_of_none ((continueOp_irq s).trans hi)
      | interact ht _ => exact absurd ht hc

/-- An activation that begins, goes on or ends leaves the host's position. -/
theorem irqStep_hostCtx (e : irqStepWith exec s = .next t) : t.hostCtx = s.hostCtx := by
  cases irqStep_move e with
  | idle => rfl
  | begins hi _ => exact (hostCtx_of_none hi).symm
  | @runs a b v ha w =>
    rw [hostCtx_of_some ha, ← w.saved]
    rcases irqFinish_cases s b v with hf | hf | hf <;> rw [hf]
    · exact hostCtx_of_some (w.irq ha)
    · rfl
    · exact (hostCtx_of_some ha).trans w.saved.symm

/-- A step of the IRQ agent goes on with interrupt code, and leaves the host's position. -/
theorem irqStep_codeMove (hq : s.CodeAt q c) (hc : c.todo ≠ []) (e : irqStepWith exec s = .next t) : CodeMove q c s t := by
  cases q with
  | none => exact .stays ((irqStep_hostCtx e).trans hq)
  | some a =>
    obtain ⟨hi, rfl⟩ := hq
    cases hs : s.stopped with
    | true =>
      simp only [irqStepWith, hs, if_true] at e
      cases e
      exact .stays ⟨hi, rfl⟩
    | false =>
      rw [irqStep_goOn hs hi hc] at e
      cases e
      refine .goesOn rfl fun hne => ?_
      rw [irqFinish_goesOn (.inr (.inl hne))]
      exact ⟨(continueOp_irq s).trans hi, rfl⟩

theorem agentStep_codeMove {m : Mover} (hq : s.CodeAt q c) (hc : c.todo ≠ []) (e : agentStepWith exec m s = .next t) :
    CodeMove q c s t := by
  have position {u : State} (h : SamePosition s u) : CodeMove q c s u := .stays (hq.congr h.ctx h.irq)
  cases m with
  | host => exact hostStep_codeMove hq hc e
  | irq => exact irqStep_codeMove hq hc e
  | tick =>
    cases e
    refine .stays (hq.congr ?_ ?_) <;> (unfold State.tickStep; split <;> rfl)
  | fmc => cases e; exact position (fmcStep_position s)
  | ltdcReload => cases e; exact position (ltdcReloadStep_position s)
  | ltdcVBlank => cases e; exact position (ltdcVBlankStep_position s)

/-- What a step does to the position of code in the middle of an operation; `v` is the state with the turn taken. -/
theorem step_codeMove (hq : s.CodeAt q c) (hc : c.todo ≠ []) (e : step s = .next t) :
    ∃ v : State, v.cyccnt = s.cyccnt ∧ CodeMove q c v t := by
  rcases step_cases e with ⟨rfl, -⟩ | ⟨e, -⟩
  · exact ⟨s, rfl, .stays (hq.congr rfl rfl)⟩
  · obtain ⟨ms, d, hu⟩ := takeMover_state s
    rw [hu] at e
    exact ⟨{ s with sched := ms, draws := d }, rfl, agentStep_codeMove (hq.congr rfl rfl) hc e⟩

end

/-! ### The lower bound (R164) -/

/-- The code `q` stands at the first of the host steps `l`, with at least `m` TICK steps still due to its delay. -/
def State.WaitsAt (s : State) (q : Option Activation) (l : List HostStep) (m : Nat) : Prop :=
  ∃ c w, s.CodeAt q c ∧ c.todo = l ∧ c.wait = some w ∧ TicksDue m s.cyccnt w

section
variable {s t u : State} {q : Option Activation} {h : HostStep} {rest : List HostStep} {m : Nat}

/-- A TICK step takes one off the ticks still due, and no other step takes any. -/
theorem TicksDue.step {w : WaitRegs} (hd : TicksDue m s.cyccnt w) (hc : CountAt s.cyccnt s) (e : step s = .next t) :
    TicksDue (m - if s.ticksNext then 1 else 0) t.cyccnt w := by
  rw [(hc.step e).count]
  cases s.ticksNext with
  | false => simpa using hd
  | true => exact hd.tick

/-- A step leaves a delay with ticks still due at its polls. -/
theorem State.WaitsAt.step (ha : h.act = .delayPoll) (hs : s.WaitsAt q (h :: rest) m) (hc : CountAt s.cyccnt s)
    (e : step s = .next t) : m = 0 ∨ t.WaitsAt q (h :: rest) (m - if s.ticksNext then 1 else 0) := by
  obtain ⟨c, w, hq, ht, hw, hd⟩ := hs
  obtain ⟨v, hv, move⟩ := step_codeMove hq (by rw [ht]; exact List.cons_ne_nil _ _) e
  cases move with
  | stays hq' => exact .inr ⟨c, w, hq', ht, hw, hd.step hc e⟩
  | goesOn hctx hq' =>
    subst hctx
    refine (continueOp_delayPoll_due ha ht hw (hv ▸ hd)).imp id fun ⟨ht', w', hw', hd'⟩ => ?_
    exact ⟨_, w', hq' (by rw [ht']; exact List.cons_ne_nil _ _), ht', hw', (hv ▸ hd').step hc e⟩

/-- Over a run, a delay is still at its polls or the ticks that were due have happened. -/
theorem State.WaitsAt.runFor {k : Nat} (ha : h.act = .delayPoll) (hs : s.WaitsAt q (h :: rest) m) (hc : CountAt s.cyccnt s)
    (e : runFor k s = .next u) : (∃ c, u.CodeAt q c ∧ c.todo = h :: rest) ∨ m ≤ ticksIn k s := by
  induction k generalizing s m with
  | zero =>
    cases e
    obtain ⟨c, -, hq, ht, -⟩ := hs
    exact .inl ⟨c, hq, ht⟩
  | succ k ih =>
    obtain ⟨t, hst, e⟩ := runFor_succ_next e
    rcases hs.step ha hc hst with rfl | ht
    · exact .inr (Nat.zero_le _)
    · have hct := hc.step hst
      rw [ticksIn_succ hst]
      exact (ih ht (hct.count ▸ hct) e).imp id fun hle => by omega

end

/-- Settles O26. When the reference sample has been taken all `t` ticks are due (`ticksDue_begun`), and the code that waits
cannot pass its polls before they have happened (`State.WaitsAt.runFor`), be it the host's or interrupt code. -/
theorem delayLowerBound : Obligations.DelayLowerBound := by
  intro s t h rest k u hc ha ht hw e
  have bound (q : Option Activation) (hq : s.CodeAt q s.ctx) :
      (∃ c, u.CodeAt q c ∧ c.todo = h :: rest) ∨ t.toNat ≤ ticksIn k s :=
    State.WaitsAt.runFor ha ⟨s.ctx, _, hq, ht, hw, ticksDue_begun s.cyccnt t⟩ ((countInv_iff s).1 hc) e
  refine ⟨fun hi hu => (bound none (hostCtx_of_none hi)).resolve_left ?_,
    fun a hi hu => (bound (some a) ⟨hi, rfl⟩).resolve_left ?_⟩
  · rintro ⟨c, rfl, hl⟩
    exact hu hl
  · rintro ⟨c, ⟨hui, rfl⟩, hl⟩
    exact hu ⟨hui, hl⟩

end Sys2Proof.Machine
end

section
/-! PROOFS, family 42_stopwatch: the lap times (R182, R185), and the saturation law (R186), which follows from what the slots
and the cursor of a session hold in terms of all its samples (`Recorded`). -/

namespace Sys2Proof.Machine

/-! ### Lap times (R182, R185) -/

section
variable {w : StopWatch} {n : Nat}

theorem StopWatch.lapTime_eq_none (h : n = 0 ∨ w.cursor < n) : w.lapTime n = none :=
  if_pos h

theorem StopWatch.lapTime_eq_some {a b : Word} (h0 : n ≠ 0) (hn : n ≤ w.cursor) (hb : w.samples[n]? = some (some b))
    (ha : w.samples[n - 1]? = some (some a)) :
    w.lapTime n = some ⟨.ticks ((b - a).setWidth 64), some w.freq⟩ := by
  simp [StopWatch.lapTime, StopWatch.slot, h0, Nat.not_lt.2 hn, hb, ha]

theorem StopWatch.advance_of_none (h : w.lapTime w.it = none) : w.advance = w := by
  rw [StopWatch.advance, h]

theorem StopWatch.advance_of_some {d : Duration} (h : w.lapTime w.it = some d) : w.advance = { w with it := w.it + 1 } := by
  rw [StopWatch.advance, h]

end

section
variable {s : State} {h : Word} {w : StopWatch}

theorem swLapTime_of_watch (n : Word) (hw : s.watch h = some w) :
    exec (.swLapTime h n) s = .next (s.setRes (.duration (w.lapTime n.toNat))) := by
  simp [exec, execSwLapTime, hw]

theorem swIterNext_of_watch (hw : s.watch h = some w) :
    exec (.swIterNext h) s = .next ((s.setWatch h w.advance).setRes (.duration (w.lapTime w.it))) := by
  simp [exec, execSwIterNext, hw]

end

/-- Settles O28. Both operations answer `lapTime`; whether the lap exists decides if the iterator moves on. -/
theorem stopWatchLapTimes : Obligations.StopWatchLapTimes := by
  intro s h w hw
  refine ⟨fun n hn => ?_, fun n a b h0 hn hb ha => ?_, fun hn => ?_, fun a b h0 hn hb ha => ?_⟩
  · rw [swLapTime_of_watch n hw, StopWatch.lapTime_eq_none (hn.imp_left BitVec.toNat_eq.1)]
    rfl
  · rw [swLapTime_of_watch n hw, StopWatch.lapTime_eq_some (BitVec.toNat_ne_iff_ne.2 h0) hn hb ha]
    rfl
  · have hlap := StopWatch.lapTime_eq_none hn
    rw [swIterNext_of_watch hw, StopWatch.advance_of_none hlap, hlap]
    rfl
  · have hlap := StopWatch.lapTime_eq_some h0 hn hb ha
    rw [swIterNext_of_watch hw, StopWatch.advance_of_some hlap, hlap]
    rfl

/-! ### The saturation law (R186) -/

/-- What the storage `w` of `cap` slots holds of the samples `l`, the session's first one and one for each lap: they fill the
slots in order, the latest one always in the last slot once there are more than slots; what nothing has written is none. -/
structure Recorded (cap : Nat) (l : List Word) (w : StopWatch) : Prop where
  capacity : w.cap = cap
  slots : w.samples.length = cap
  cursor : w.cursor = min (l.length - 1) (cap - 1)
  own : ∀ i < cap - 1, w.samples[i]? = some l[i]?
  latest : cap ≤ l.length → w.samples[cap - 1]? = some l.getLast?

/-- The lap's slot is the next one, or the last one again. -/
theorem StopWatch.lap_cursor {w : StopWatch} (h : w.cursor ≤ w.cap - 1) (c : Word) :
    (w.lap c).cursor = min (w.cursor + 1) (w.cap - 1) := by
  simp only [StopWatch.lap]
  split <;> omega

theorem StopWatch.lap_samples (w : StopWatch) (c : Word) :
    (w.lap c).samples = w.samples.set (w.lap c).cursor (some c) := rfl

section
variable {cap : Nat} {l : List Word} {w : StopWatch}

/-- A new session holds the sample of its creation in slot 0 and nothing else (R180). -/
theorem recorded_newWatch {cap : Word} (freq c : Word) (hc : 2 ≤ cap.toNat) :
    Recorded cap.toNat [c] (newWatch cap freq c) where
  capacity := rfl
  slots := by simp only [newWatch, List.length_cons, List.length_replicate]; omega
  cursor := (Nat.zero_min _).symm
  own i hi := by
    cases i with
    | zero => rfl
    | succ i =>
      have hi' : i < cap.toNat - 1 := by omega
      simp [newWatch, hi']
  latest h := absurd (hc.trans h) (by simp)

theorem Recorded.lap_cursor (h : Recorded cap l w) (hl : l ≠ []) (x : Word) :
    (w.lap x).cursor = min l.length (cap - 1) := by
  have hpos := List.length_pos_iff.2 hl
  have hcur := h.cursor
  rw [StopWatch.lap_cursor (by rw [h.capacity]; omega), h.capacity]
  omega

/-- A lap writes its sample to the slot that is its own, or to the last one; no other slot changes (R181). -/
theorem Recorded.lap (h : Recorded cap l w) (hc : 2 ≤ cap) (hl : l ≠ []) (x : Word) :
    Recorded cap (l ++ [x]) (w.lap x) where
  capacity := h.capacity
  slots := by rw [StopWatch.lap_samples, List.length_set, h.slots]
  cursor := by rw [h.lap_cursor hl, List.length_append, List.length_singleton, Nat.add_sub_cancel]
  own i hi := by
    rw [StopWatch.lap_samples, h.lap_cursor hl, List.getElem?_set, h.slots]
    rcases lt_trichotomy i l.length with hlt | rfl | hgt
    · rw [if_neg (by omega), h.own i hi, List.getElem?_append_left hlt]
    · rw [if_pos (by omega), if_pos (by omega), List.getElem?_concat_length]
    · rw [if_neg (by omega), h.own i hi, List.getElem?_eq_none hgt.le, List.getElem?_eq_none (by simpa using hgt)]
  latest hfull := by
    have hcur : (w.lap x).cursor = cap - 1 := by
      rw [List.length_append, List.length_singleton] at hfull
      rw [h.lap_cursor hl]
      omega
    rw [StopWatch.lap_samples, hcur, List.getElem?_set_self (by rw [h.slots]; omega), List.getLast?_concat]

theorem Recorded.foldl_lap (h : Recorded cap l w) (hc : 2 ≤ cap) (hl : l ≠ []) (laps : List Word) :
    Recorded cap (l ++ laps) (laps.foldl StopWatch.lap w) := by
  induction laps generalizing l w with
  | nil => simpa using h
  | cons x laps ih => simpa using ih (h.lap hc hl x) (by simp)

end

/-- Settles O29: the session holds its first sample and those of the laps as `Recorded` says, by induction over the laps. -/
theorem saturationLaw : Obligations.SaturationLaw := by
  intro cap freq c laps hc
  have h := (recorded_newWatch freq c hc).foldl_lap hc (List.cons_ne_nil c []) laps
  refine ⟨h.cursor, fun last hlast hfull => ?_, fun i hi hslot => ?_, h.own 0 (by omega)⟩
  · rw [h.latest (by simp; omega), List.getLast?_append, hlast, Option.some_or]
  · rw [h.own _ hslot, List.singleton_append, List.getElem?_cons_succ, List.getElem?_eq_getElem hi]

end Sys2Proof.Machine
end

section
/-! PROOFS, family 43_timing_calc: the two conversions of the calculator (R201, R202), the laws that follow from them (R204),
and the eight fields of TC_CONVERT_SPEC in their order (R203). -/

namespace Sys2Proof.Machine

/-! ### The exact ceiling and the clamp (R201) -/

/-- `ceilDiv a b` is the least natural whose product with `b` reaches `a`. -/
theorem ceilDiv_bounds (a : Nat) {b : Nat} (hb : b ≠ 0) : a ≤ ceilDiv a b * b ∧ ceilDiv a b * b < a + b := by
  have hdiv : ceilDiv a b * b + (a + b - 1) % b = a + b - 1 := Nat.div_add_mod' _ _
  have hmod := Nat.mod_lt (a + b - 1) (Nat.pos_of_ne_zero hb)
  omega

theorem cyclesOf_bounds (ns f : Nat) {d : Nat} (hd : d ≠ 0) :
    ns * f ≤ cyclesOf ns f d * (d * 10 ^ 9) ∧ cyclesOf ns f d * (d * 10 ^ 9) < ns * f + d * 10 ^ 9 :=
  ceilDiv_bounds (ns * f) (Nat.mul_ne_zero hd (by decide))

theorem cyclesOf_mono {ns ns' : Nat} (h : ns ≤ ns') (f d : Nat) : cyclesOf ns f d ≤ cyclesOf ns' f d :=
  Nat.div_le_div_right (Nat.sub_le_sub_right (Nat.add_le_add_right (Nat.mul_le_mul_right f h) _) 1)

theorem cyclesOf_zero (f : Nat) {d : Nat} (hd : d ≠ 0) : cyclesOf 0 f d = 0 := by
  have hlt : 0 * f + d * 1000000000 - 1 < d * 1000000000 := by omega
  exact Nat.div_eq_of_lt hlt

theorem le_clampCycles (c sub mn : Nat) : mn ≤ clampCycles c sub mn := by
  unfold clampCycles
  split <;> omega

theorem clampCycles_mono {c c' : Nat} (h : c ≤ c') (sub mn : Nat) : clampCycles c sub mn ≤ clampCycles c' sub mn := by
  by_cases hc : mn + sub < c
  · rw [clampCycles, clampCycles, if_pos hc, if_pos (hc.trans_le h)]
    exact Nat.sub_le_sub_right h sub
  · rw [clampCycles, if_neg hc]
    exact le_clampCycles c' sub mn

theorem clampCycles_zero (sub mn : Nat) : clampCycles 0 sub mn = mn :=
  if_neg (Nat.not_lt_zero _)

/-! ### The margin of the refresh count (R202) -/

theorem refreshOfRaw_eq (raw : Nat) : refreshOfRaw raw = if raw ≤ 61 then 41 else raw - 20 := rfl

theorem le_refreshOfRaw (raw : Nat) : 41 ≤ refreshOfRaw raw := by
  rw [refreshOfRaw_eq]
  split <;> omega

theorem refreshOfRaw_mono {raw raw' : Nat} (h : raw ≤ raw') : refreshOfRaw raw ≤ refreshOfRaw raw' := by
  by_cases hr : raw ≤ 61
  · rw [refreshOfRaw_eq raw, if_pos hr]
    exact le_refreshOfRaw raw'
  · rw [refreshOfRaw_eq, refreshOfRaw_eq, if_neg hr, if_neg fun hr' => hr (h.trans hr')]
    exact Nat.sub_le_sub_right h 20

/-! ### The two conversions (R201, R202) -/

section
variable {ns f d sub mn rows : Nat}

theorem nanosToCycles_of_zero (h : f = 0 ∨ d = 0) : nanosToCycles ns f d sub mn = .error .badOperand :=
  if_pos h

theorem nanosToCycles_of_ne_zero (hf : f ≠ 0) (hd : d ≠ 0) : nanosToCycles ns f d sub mn =
    if clampCycles (cyclesOf ns f d) sub mn < 2 ^ 32 then .ok (clampCycles (cyclesOf ns f d) sub mn) else .error .overflow := by
  simp only [nanosToCycles, hf, hd, or_self, if_false, ge_iff_le, ← Nat.not_lt, ite_not]

theorem nanosToCycles_eq_ok_iff {r : Nat} : nanosToCycles ns f d sub mn = .ok r ↔
    (f ≠ 0 ∧ d ≠ 0) ∧ r < 2 ^ 32 ∧ clampCycles (cyclesOf ns f d) sub mn = r := by
  by_cases h : f = 0 ∨ d = 0
  · simp [nanosToCycles_of_zero h, ← not_or, h]
  · obtain ⟨hf, hd⟩ := not_or.1 h
    rw [nanosToCycles_of_ne_zero hf hd]
    split <;> simp <;> omega

theorem refreshCounter_of_zero (h : f = 0 ∨ d = 0 ∨ rows = 0) : refreshCounter ns f d rows = .error .badOperand :=
  if_pos h

theorem refreshCounter_of_ne_zero (hf : f ≠ 0) (hd : d ≠ 0) (hr : rows ≠ 0) : refreshCounter ns f d rows =
    if refreshOfRaw (cyclesOf ns f d / rows) ≤ 0xFFFF then .ok (refreshOfRaw (cyclesOf ns f d / rows))
    else .error .overflow := by
  simp only [refreshCounter, hf, hd, hr, or_self, if_false, gt_iff_lt, ← Nat.not_le, ite_not]

theorem refreshCounter_eq_ok_iff {v : Nat} : refreshCounter ns f d rows = .ok v ↔
    (f ≠ 0 ∧ d ≠ 0 ∧ rows ≠ 0) ∧ v ≤ 0xFFFF ∧ refreshOfRaw (cyclesOf ns f d / rows) = v := by
  by_cases h : f = 0 ∨ d = 0 ∨ rows = 0
  · simp [refreshCounter_of_zero h, ← not_or, h]
  · obtain ⟨hf, hd, hr⟩ : f ≠ 0 ∧ d ≠ 0 ∧ rows ≠ 0 := by simpa only [not_or] using h
    rw [refreshCounter_of_ne_zero hf hd hr]
    split <;> simp <;> omega

end

/-! ### The operations of R201 and R202 -/

section
variable (s : State) {ns f d sub mn rows : Word}

theorem exec_tcNanosToCycles_of_zero (h : f = 0 ∨ d = 0) :
    exec (.tcNanosToCycles ns f d sub mn) s = .next (s.refuse .badOperand) := by
  have h' : f.toNat = 0 ∨ d.toNat = 0 := h.imp BitVec.toNat_eq.1 BitVec.toNat_eq.1
  simp only [exec, execTcNanosToCycles, nanosToCycles_of_zero h']

theorem exec_tcNanosToCycles (hf : f ≠ 0) (hd : d ≠ 0) :
    let r := clampCycles (cyclesOf ns.toNat f.toNat d.toNat) sub.toNat mn.toNat
    exec (.tcNanosToCycles ns f d sub mn) s =
      .next (if r < 2 ^ 32 then s.setRes (.u32 (BitVec.ofNat 32 r)) else s.refuse .overflow) := by
  simp only [exec, execTcNanosToCycles,
    nanosToCycles_of_ne_zero (BitVec.toNat_ne_iff_ne.2 hf) (BitVec.toNat_ne_iff_ne.2 hd)]
  split_ifs <;> rfl

theorem exec_tcRefreshCounter_of_zero (h : f = 0 ∨ d = 0 ∨ rows = 0) :
    exec (.tcRefreshCounter ns f d rows) s = .next (s.refuse .badOperand) := by
  have h' : f.toNat = 0 ∨ d.toNat = 0 ∨ rows.toNat = 0 := h.imp BitVec.toNat_eq.1 (.imp BitVec.toNat_eq.1 BitVec.toNat_eq.1)
  simp only [exec, execTcRefreshCounter, refreshCounter_of_zero h']

theorem exec_tcRefreshCounter (hf : f ≠ 0) (hd : d ≠ 0) (hr : rows ≠ 0) :
    let v := refreshOfRaw (cyclesOf ns.toNat f.toNat d.toNat / rows.toNat)
    exec (.tcRefreshCounter ns f d rows) s =
      .next (if v ≤ 0xFFFF then s.setRes (.u16 (BitVec.ofNat 16 v)) else s.refuse .overflow) := by
  simp only [exec, execTcRefreshCounter, refreshCounter_of_ne_zero (BitVec.toNat_ne_iff_ne.2 hf)
    (BitVec.toNat_ne_iff_ne.2 hd) (BitVec.toNat_ne_iff_ne.2 hr)]
  split_ifs <;> rfl

end

/-- Settles O30: the cycle count is `cyclesOf`, whose two bounds make it the exact ceiling. -/
theorem calculatorResults : Obligations.CalculatorResults := by
  refine ⟨fun s ns f d sub mn => ⟨rfl, exec_tcNanosToCycles_of_zero s, fun hf hd => ?_⟩,
    fun s p f d rows => ⟨rfl, exec_tcRefreshCounter_of_zero s, fun hf hd hr => ?_⟩⟩
  · obtain ⟨hlo, hhi⟩ := cyclesOf_bounds ns.toNat f.toNat (BitVec.toNat_ne_iff_ne.2 hd)
    exact ⟨cyclesOf ns.toNat f.toNat d.toNat, hlo, hhi, exec_tcNanosToCycles s hf hd⟩
  · obtain ⟨hlo, hhi⟩ := cyclesOf_bounds p.toNat f.toNat (BitVec.toNat_ne_iff_ne.2 hd)
    exact ⟨cyclesOf p.toNat f.toNat d.toNat, hlo, hhi, exec_tcRefreshCounter s hf hd hr⟩

/-- Settles O32: a result is the clamp, or the margin, of the cycle count, and each of the three functions is monotone. -/
theorem calculatorLaws : Obligations.CalculatorLaws := by
  refine ⟨fun ns ns' f d sub mn r r' hle h h' => ?_, fun f d sub mn hf hd hmn => ?_, fun ns f d sub mn r h => ?_,
    fun p p' f d rows v v' hle h h' => ?_, fun p f d rows v h => ?_⟩
  · obtain ⟨-, -, rfl⟩ := nanosToCycles_eq_ok_iff.1 h
    obtain ⟨-, -, rfl⟩ := nanosToCycles_eq_ok_iff.1 h'
    exact clampCycles_mono (cyclesOf_mono hle f d) sub mn
  · refine nanosToCycles_eq_ok_iff.2 ⟨⟨hf, hd⟩, hmn, ?_⟩
    rw [cyclesOf_zero f hd, clampCycles_zero]
  · obtain ⟨-, -, rfl⟩ := nanosToCycles_eq_ok_iff.1 h
    exact le_clampCycles _ sub mn
  · obtain ⟨-, -, rfl⟩ := refreshCounter_eq_ok_iff.1 h
    obtain ⟨-, -, rfl⟩ := refreshCounter_eq_ok_iff.1 h'
    exact refreshOfRaw_mono (Nat.div_le_div_right (cyclesOf_mono hle f d))
  · obtain ⟨-, -, rfl⟩ := refreshCounter_eq_ok_iff.1 h
    exact le_refreshOfRaw _

/-! ### Computations that go on or refuse -/

section
variable {ε α β : Type}

theorem except_bind_eq_ok_iff {x : Except ε α} {g : α → Except ε β} {b : β} :
    (x >>= g) = .ok b ↔ ∃ a, x = .ok a ∧ g a = .ok b := by
  cases x with
  | error e => exact ⟨nofun, nofun⟩
  | ok a => exact ⟨fun h => ⟨a, rfl, h⟩, fun ⟨_, rfl, h⟩ => h⟩

/-- The first of `l` that is an error is `r`. -/
def FirstError (l : List (Except ε α)) (r : ε) : Prop :=
  ∃ k : Nat, l[k]? = some (.error r) ∧ ∀ j < k, ∃ a, l[j]? = some (.ok a)

theorem firstError_nil {r : ε} : ¬ FirstError ([] : List (Except ε α)) r :=
  nofun

theorem firstError_error_cons {e r : ε} {l : List (Except ε α)} (h : FirstError (.error e :: l) r) : e = r := by
  obtain ⟨k, hk, hj⟩ := h
  cases k with
  | zero => simpa using hk
  | succ k => simpa using hj 0 k.succ_pos

theorem firstError_ok_cons {a : α} {r : ε} {l : List (Except ε α)} (h : FirstError (.ok a :: l) r) : FirstError l r := by
  obtain ⟨k, hk, hj⟩ := h
  cases k with
  | zero => simp at hk
  | succ k => exact ⟨k, hk, fun j hlt => hj (j + 1) (Nat.succ_lt_succ hlt)⟩

/-- A computation that starts with `x` ends in the first error of `x :: l` if its rest does so for `l`. -/
theorem bind_eq_error_of_firstError {x : Except ε α} {g : α → Except ε β} {l : List (Except ε α)} {r : ε}
    (h : FirstError (x :: l) r) (hg : ∀ a, FirstError l r → g a = .error r) : (x >>= g) = .error r := by
  cases x with
  | error e => exact congrArg _ (firstError_error_cons h)
  | ok a => exact hg a (firstError_ok_cons h)

end

/-! ### The fields of TC_CONVERT_SPEC (R203) -/

/-- A conversion whose value must fit a field: FieldOverflow from `lim` on. -/
def boundedBy (lim : Nat) (e : Except Refusal Nat) : Except Refusal Nat :=
  match e with
  | .ok c => if lim ≤ c then .error .fieldOverflow else .ok c
  | .error r => .error r

theorem boundedBy_eq_ok_iff {lim c : Nat} {e : Except Refusal Nat} : boundedBy lim e = .ok c ↔ e = .ok c ∧ c < lim := by
  cases e with
  | error r => exact ⟨nofun, nofun⟩
  | ok n =>
    simp only [boundedBy]
    split <;> simp <;> omega

section
variable (p : Params) (sm : SubMin) (ns f d rows : Nat)

theorem convertField_eq : convertField p sm ns f d =
    boundedBy (2 ^ p.timingFieldBits) (nanosToCycles ns f d sm.subtract sm.minimum) := by
  unfold convertField
  cases nanosToCycles ns f d sm.subtract sm.minimum <;> rfl

theorem convertRefresh_eq : convertRefresh p ns f d rows =
    boundedBy (2 ^ p.regMap.fields.sdrtr.count.width) (refreshCounter ns f d rows) >>= fun v => .ok (BitVec.ofNat 16 v) := by
  unfold convertRefresh
  cases refreshCounter ns f d rows with
  | error r => rfl
  | ok v =>
    by_cases hv : 2 ^ p.regMap.fields.sdrtr.count.width ≤ v
    · rw [boundedBy, if_pos hv]
      exact if_pos hv
    · rw [boundedBy, if_neg hv]
      exact if_neg hv

end

theorem convertRefresh_eq_ok_iff {p : Params} {ns f d rows : Nat} {v : BitVec 16} : convertRefresh p ns f d rows = .ok v ↔
    refreshCounter ns f d rows = .ok v.toNat ∧ v.toNat < 2 ^ p.regMap.fields.sdrtr.count.width := by
  rw [convertRefresh_eq, except_bind_eq_ok_iff]
  constructor
  · rintro ⟨n, hn, hv⟩
    obtain ⟨hr, hlt⟩ := boundedBy_eq_ok_iff.1 hn
    obtain ⟨-, hn16, -⟩ := refreshCounter_eq_ok_iff.1 hr
    cases hv
    rw [BitVec.toNat_ofNat, Nat.mod_eq_of_lt (by omega)]
    exact ⟨hr, hlt⟩
  · exact fun h => ⟨v.toNat, boundedBy_eq_ok_iff.2 h, by simp⟩

section
variable {p : Params} {t : TimingNs} {rowBits f d : Nat}

theorem convertSpec_eq_ok_iff {c : TimingSpecCycles} : convertSpec p t rowBits f d = .ok c ↔
    convertField p p.timingSubMin.rcd t.rcd.toNat f d = .ok c.rcd ∧ convertField p p.timingSubMin.rp t.rp.toNat f d = .ok c.rp ∧
    convertField p p.timingSubMin.wr t.wr.toNat f d = .ok c.wr ∧ convertField p p.timingSubMin.rc t.rc.toNat f d = .ok c.rc ∧
    convertField p p.timingSubMin.ras t.ras.toNat f d = .ok c.ras ∧
    convertField p p.timingSubMin.xsr t.xsr.toNat f d = .ok c.xsr ∧
    convertField p p.timingSubMin.mrd t.mrd.toNat f d = .ok c.mrd ∧
    convertRefresh p t.refreshPeriod.toNat f d (2 ^ rowBits) = .ok c.refresh := by
  simp only [convertSpec, except_bind_eq_ok_iff]
  constructor
  · rintro ⟨rcd, hrcd, rp, hrp, wr, hwr, rc, hrc, ras, hras, xsr, hxsr, mrd, hmrd, refresh, hrefresh, hc⟩
    cases hc
    exact ⟨hrcd, hrp, hwr, hrc, hras, hxsr, hmrd, hrefresh⟩
  · rintro ⟨hrcd, hrp, hwr, hrc, hras, hxsr, hmrd, hrefresh⟩
    exact ⟨_, hrcd, _, hrp, _, hwr, _, hrc, _, hras, _, hxsr, _, hmrd, _, hrefresh, rfl⟩

/-- The first of the eight fields, in R203's order, that has no value decides the refusal. -/
theorem convertSpec_eq_error {r : Refusal}
    (h : FirstError [convertField p p.timingSubMin.rcd t.rcd.toNat f d, convertField p p.timingSubMin.rp t.rp.toNat f d,
      convertField p p.timingSubMin.wr t.wr.toNat f d, convertField p p.timingSubMin.rc t.rc.toNat f d,
      convertField p p.timingSubMin.ras t.ras.toNat f d, convertField p p.timingSubMin.xsr t.xsr.toNat f d,
      convertField p p.timingSubMin.mrd t.mrd.toNat f d,
      boundedBy (2 ^ p.regMap.fields.sdrtr.count.width) (refreshCounter t.refreshPeriod.toNat f d (2 ^ rowBits))] r) :
    convertSpec p t rowBits f d = .error r := by
  unfold convertSpec
  refine bind_eq_error_of_firstError h fun _ h => bind_eq_error_of_firstError h fun _ h =>
    bind_eq_error_of_firstError h fun _ h => bind_eq_error_of_firstError h fun _ h =>
    bind_eq_error_of_firstError h fun _ h => bind_eq_error_of_firstError h fun _ h =>
    bind_eq_error_of_firstError h fun _ h => ?_
  rw [convertRefresh_eq, bind_assoc]
  exact bind_eq_error_of_firstError h fun _ h => absurd h firstError_nil

end

/-! ### The operation of R203 -/

section
variable {s : State} {t : TimingSpecNs} {f d : Word}

theorem exec_tcConvertSpec_of_ok {c : TimingSpecCycles} (ht : timingSpecOk s.params.fieldValues t = true) (hf : f ≠ 0)
    (h : convertSpec s.params t.ns t.rowBits.toNat f.toNat d.toNat = .ok c) :
    exec (.tcConvertSpec t f d) s = .next (s.setRes (.cycles c)) := by
  simp [exec, execTcConvertSpec, ht, hzOk_of_ne_zero hf, h]

theorem exec_tcConvertSpec_of_error {r : Refusal} (ht : timingSpecOk s.params.fieldValues t = true) (hf : f ≠ 0)
    (h : convertSpec s.params t.ns t.rowBits.toNat f.toNat d.toNat = .error r) :
    exec (.tcConvertSpec t f d) s = .next (s.refuse r) := by
  simp [exec, execTcConvertSpec, ht, hzOk_of_ne_zero hf, h]

/-- A result that was not there before is the converted specification: a refusal leaves RES as it was. -/
theorem convertSpec_of_exec {c : TimingSpecCycles} (ht : timingSpecOk s.params.fieldValues t = true) (hf : f ≠ 0)
    (e : exec (.tcConvertSpec t f d) s = .next (s.setRes (.cycles c))) (hres : s.res ≠ some (.cycles c)) :
    convertSpec s.params t.ns t.rowBits.toNat f.toNat d.toNat = .ok c := by
  cases h : convertSpec s.params t.ns t.rowBits.toNat f.toNat d.toNat with
  | error r =>
    rw [exec_tcConvertSpec_of_error ht hf h] at e
    exact absurd (congrArg State.res (Host.Outcome.next.inj e)) hres
  | ok c' =>
    rw [exec_tcConvertSpec_of_ok ht hf h] at e
    have hc : some (Value.cycles c') = some (Value.cycles c) := congrArg State.res (Host.Outcome.next.inj e)
    cases hc
    rfl

end

/-- Settles O31: the operation answers what `convertSpec` gives, whose values and refusals are those of its fields. -/
theorem convertSpecResult : Obligations.ConvertSpecResult := by
  intro s t f d ht hf
  refine ⟨fun c hrcd hrp hwr hrc hras hxsr hmrd hrefresh hwidth => exec_tcConvertSpec_of_ok ht hf ?_,
    fun c e hres => ?_, ?_, fun k r hk hj => exec_tcConvertSpec_of_error ht hf ?_⟩
  · simp only [convertSpec_eq_ok_iff, convertField_eq, boundedBy_eq_ok_iff, convertRefresh_eq_ok_iff]
    exact ⟨hrcd, hrp, hwr, hrc, hras, hxsr, hmrd, hrefresh, hwidth⟩
  · have h := convertSpec_of_exec ht hf e hres
    simpa only [convertSpec_eq_ok_iff, convertField_eq, boundedBy_eq_ok_iff, convertRefresh_eq_ok_iff] using h
  · cases h : convertSpec s.params t.ns t.rowBits.toNat f.toNat d.toNat with
    | ok c => exact .inl ⟨c, exec_tcConvertSpec_of_ok ht hf h⟩
    | error r => exact .inr ⟨r, exec_tcConvertSpec_of_error ht hf h⟩
  · apply convertSpec_eq_error
    simp only [convertField_eq]
    exact ⟨k, hk, hj⟩

end Sys2Proof.Machine
end

section
/-! PROOFS, family 44_sdram_sequencer: the sequencer invariant (R221, R248, R250). -/

namespace Sys2Proof.Machine

/-! ### A step that enters CLOCK_ENABLE without selecting a bank -/

/-- Host steps that take the sequencer from IDLE through every phase and then leave the critical section, as `phasesOk` asks. The
first enters CLOCK_ENABLE by its phase alone, where a bring-up's `enterBringup` would set SEQ_BANK in the same step (R222). -/
def phasesWithoutBank : List HostStep :=
  [⟨.enter, some .clockEnable, none⟩, ⟨.clockBranch, none, none⟩, ⟨.enter, some .timing, none⟩,
    ⟨.enter, some .cmdClk, none⟩, ⟨.enter, some .cmdPall, none⟩, ⟨.enter, some .cmdAref, none⟩,
    ⟨.enter, some .cmdLmr, none⟩, ⟨.enter, some .refresh, none⟩, ⟨.enter, some .live, none⟩, ⟨.leave, none, none⟩]

/-- The machine after reset, masked, with these steps still to be made and the host's turn next. -/
def bankless : State := { State.reset with sched := [.host], imask := true, ctx := { todo := phasesWithoutBank } }

theorem bankless_seqInv : bankless.seqInv = true := by decide +kernel

/-- The step enters CLOCK_ENABLE and leaves SEQ_BANK none. -/
theorem step_bankless : ∃ t, step bankless = .next t ∧ t.seqPhase = .clockEnable ∧ t.seqBank = none :=
  ⟨{ bankless with
      sched := [], csStack := [true], seqPhase := .clockEnable, ctx := { todo := phasesWithoutBank.tail } },
    by rfl, rfl, rfl⟩

/-- SEQ_BANK is none in IDLE only. -/
theorem seqBank_of_seqInv {s : State} (h : s.seqInv = true) (hb : s.seqBank = none) : s.seqPhase = .idle := by
  simp only [State.seqInv, Bool.and_eq_true, beq_iff_eq, hb, Option.isNone_none] at h
  obtain ⟨⟨-, hbank⟩, -⟩ := h
  exact eq_of_beq hbank.symm

/-- Refutes O17: `seqInv` does not ask that CLOCK_ENABLE is entered by `enterBringup` only, so it holds of `bankless`, which no run
reaches; the next host step then enters CLOCK_ENABLE with no bank selected, where `seqInv` does not hold. -/
theorem not_phasesInOrder : ¬ Obligations.PhasesInOrder := by
  unfold Obligations.PhasesInOrder
  intro h
  obtain ⟨t, e, hphase, hbank⟩ := step_bankless
  obtain ⟨hinv, -⟩ := h bankless t bankless_seqInv e
  have hidle : t.seqPhase = .idle := seqBank_of_seqInv hinv hbank
  rw [hphase] at hidle
  cases hidle

end Sys2Proof.Machine
end

section
/-! PROOFS, family 44_sdram_sequencer: the words of FMC_SDCMR (R112, R113), from the fields of any layout. -/

namespace Sys2Proof.Machine

section
variable (m : SdcmrFields) (mode : BitVec 3) (ctb1 ctb2 : Bool) (nrfs : BitVec 4) (mrd : BitVec 13)

/-- The fields of a command word with their values (R112). -/
def commandParts : List (BitField × Nat) :=
  [(m.mode, mode.toNat), (m.ctb2, ctb2.toNat), (m.ctb1, ctb1.toNat), (m.nrfs, nrfs.toNat), (m.mrd, mrd.toNat)]

theorem commandWord_eq : m.word mode ctb1 ctb2 nrfs mrd = putAll (commandParts m mode ctb1 ctb2 nrfs mrd) := by
  simp [SdcmrFields.word, commandParts, putAll, BitField.putBit, BitVec.or_assoc]

theorem commandParts_fit {p : Params} (hp : p.layoutOk = true) :
    PartsFit (commandParts p.regMap.fields.sdcmr mode ctb1 ctb2 nrfs mrd) := by
  have fits (f : BitField) (n v : Nat) (hf : (f, n) ∈ p.regMap.fields.fixedWidths) (hv : v < 2 ^ n) : v < 2 ^ f.width := by
    rwa [layoutOk_width hp hf]
  refine ⟨layoutOk_fits hp (r := .sdcmr) (by decide), ?_⟩
  simp only [commandParts, List.forall_mem_cons]
  refine ⟨fits _ 3 _ ?_ mode.isLt, fits _ 1 _ ?_ (Bool.toNat_lt _), fits _ 1 _ ?_ (Bool.toNat_lt _),
    fits _ 4 _ ?_ nrfs.isLt, fits _ 13 _ ?_ mrd.isLt, by simp⟩
  all_goals simp [FieldMap.fixedWidths]

/-- In the default map the word is the sum of its fields at R112's positions. -/
theorem commandWord_default : (SdcmrFields.default.word mode ctb1 ctb2 nrfs mrd).toNat =
    mode.toNat + ctb2.toNat * 8 + ctb1.toNat * 16 + nrfs.toNat * 32 + mrd.toNat * 512 := by
  have hparts : commandParts SdcmrFields.default mode ctb1 ctb2 nrfs mrd = [(⟨0, 3⟩, mode.toNat), (⟨3, 1⟩, ctb2.toNat),
      (⟨4, 1⟩, ctb1.toNat), (⟨5, 4⟩, nrfs.toNat), (⟨9, 13⟩, mrd.toNat)] := rfl
  have hsum : (SdcmrFields.default.word mode ctb1 ctb2 nrfs mrd).toNat =
      partsSum (commandParts SdcmrFields.default mode ctb1 ctb2 nrfs mrd) :=
    (commandParts_fit mode ctb1 ctb2 nrfs mrd layoutOk_default).toNat_of_eq (commandWord_eq _ mode ctb1 ctb2 nrfs mrd)
  rw [hsum, hparts]
  simp only [partsSum, -Nat.reducePow]
  omega

/-- In the default map the word of the four command rows is `CMDWORD` (R112). -/
theorem commandWord_default_eq : SdcmrFields.default.word mode ctb1 ctb2 nrfs mrd = cmdWord mode ctb1 ctb2 nrfs mrd := by
  refine BitVec.eq_of_getLsbD_eq fun i hi => ?_
  have hmode (j : Nat) : mode.toNat.testBit j = mode.getLsbD j := rfl
  have hnrfs (j : Nat) : nrfs.toNat.testBit j = nrfs.getLsbD j := rfl
  have hmrd (j : Nat) : mrd.toNat.testBit j = mrd.getLsbD j := rfl
  have hmrd' : ¬ i < 22 → mrd.getLsbD (i - 9) = false := fun h => BitVec.getLsbD_of_ge _ _ (by omega)
  have hbit (b : Bool) (j : Nat) : b.toNat.testBit j = (decide (j = 0) && b) := by
    cases b <;> cases j <;> simp [Nat.testBit_add_one]
  rw [cmdWord_bit _ _ _ _ _ hi]
  simp only [SdcmrFields.word, SdcmrFields.default, BitField.putBit, BitVec.getLsbD_or, BitField.put_bit, hmode, hnrfs, hmrd,
    hbit]
  grind

end

end Sys2Proof.Machine
end

section
/-! PROOFS, family 44_sdram_sequencer: the registers of the FMC, its step and the polls, one rule for each outcome (R226, R242,
R243, R245 to R247, R290). -/

namespace Sys2Proof.Machine

section
variable {s : State} {r : Reg} {w : Word}

/-! ### Register accesses (R226, R245, R247) -/

theorem fmcWritable_eq_true_iff : s.fmcWritable = true ↔ s.fmcen = true ∧ s.fmcrst = false := by
  simp [State.fmcWritable]

theorem fmcWritable_of_fmcen (h : s.fmcen = false) : s.fmcWritable = false := by simp [State.fmcWritable, h]

theorem fmcWritable_of_fmcrst (h : s.fmcrst = true) : s.fmcWritable = false := by simp [State.fmcWritable, h]

/-- A write of an FMC register that is not clocked, or held in reset, is ignored. -/
theorem regWrite_of_not_fmcWritable (hr : isFmcReg r = true) (h : s.fmcWritable = false) : s.regWrite r w = .ok s := by
  cases r with
  | sdcr1 | sdcr2 | sdtr1 | sdtr2 | sdcmr | sdrtr | sdsr => simp [State.regWrite, State.writeSdcmr, h]
  | _ => cases hr

theorem regWrite_sdcmr_of_busy (h : s.fmcWritable = true) (hb : s.busy = true) :
    s.regWrite .sdcmr w = .error .commandCorrupted := by
  simp [State.regWrite, State.writeSdcmr, h, hb]

theorem regWrite_sdcmr_of_ready (h : s.fmcWritable = true) (hb : s.busy = false) :
    s.regWrite .sdcmr w = .ok { s with sdcmr := w, fmcPending := some w, busy := true } := by
  simp [State.regWrite, State.writeSdcmr, h, hb]

/-- A read of an FMC register that takes no writes has no bit that the spec leaves open. -/
theorem regValue_of_not_fmcWritable (hr : isFmcReg r = true) (h : s.fmcWritable = false) : s.regValue r = s.regKnown r := by
  simp [State.regValue, State.regFreeMask, hr, h]

theorem regKnown_of_unclocked (hr : isFmcReg r = true) (h : s.fmcen = false) : s.regKnown r = 0 := by
  simp [State.regKnown, hr, h]

theorem regKnown_of_heldInReset (hr : isFmcReg r = true) (h : s.fmcen = true) (hf : s.fmcrst = true) :
    s.regKnown r = s.params.resetWord r := by
  simp [State.regKnown, hr, h, hf]

/-! ### The FMC's step (R246) -/

theorem fmcStep_of_disabled (h : s.fmcEnabled = false) : s.fmcStep = s := by
  simp [State.fmcStep, h]

theorem fmcStep_of_pending (hp : s.fmcPending = some w) (hw : s.fmcWritable = true) (hr : s.params.fmcResponds = true) :
    s.fmcStep = { s with
      sdramLog := s.sdramLog ++ [sdramEntry s.fields.sdcmr w s.cyccnt], fmcPending := none, busy := false } := by
  simp [State.fmcStep, State.fmcEnabled, hp, hw, hr]

/-! ### BUSY as a read gives it (R45, R247) -/

theorem busyRead_eq_true_iff : s.busyRead = true ↔ s.fmcWritable = true ∧ s.busy = true := by simp [State.busyRead]

theorem busy_of_busyRead (h : s.busyRead = false) (hw : s.fmcWritable = true) : s.busy = false := by
  simpa [State.busyRead, hw] using h

/-! ### Polls (R242, R243, R290) -/

theorem doAct_pollReady_of_ready (h : s.busyRead = false) : doAct .pollReady s = .done (s.regRead .sdsr) := by
  simp [doAct, h]

theorem doAct_pollReady_of_busy (h : s.busyRead = true) : doAct .pollReady s = .stay (s.regRead .sdsr) := by
  simp [doAct, h]

theorem doAct_pollReload_of_ready (h : s.reloadReady = true) : doAct .pollReload s = .done (s.regRead .srcr) := by
  simp [doAct, h]

theorem doAct_pollReload_of_pending (h : s.reloadReady = false) : doAct .pollReload s = .stay (s.regRead .srcr) := by
  simp [doAct, h]

theorem continueOp_of_done {t : State} {h : HostStep} {rest : List HostStep} (ht : s.ctx.todo = h :: rest)
    (e : doAct h.act { s with ctx := { s.ctx with todo := rest } } = .done t) : s.continueOp = (t.enterPhase h.phase).settle := by
  rw [continueOp_of_todo ht, performStep_of_done e]

/-- A poll that holds reads its register and leaves the position. -/
theorem continueOp_of_held {h : HostStep} {rest : List HostStep} (ht : s.ctx.todo = h :: rest) (hsub : s.ctx.setupStep = h.sub)
    (e : doAct h.act { s with ctx := { s.ctx with todo := rest } } =
      .stay ({ s with ctx := { s.ctx with todo := rest } }.regRead r)) : s.continueOp = s.regRead r := by
  rw [continueOp_of_stay ht e, ← hsub]
  rfl

/-- A poll that holds, whatever has been read before it, holds however often it is made: only reads are recorded. -/
theorem continueFor_of_held (h : ∀ l d, { s with lastRead := l, draws := d }.continueOp =
    { s with lastRead := l, draws := d }.regRead r) (k : Nat) :
    ∃ l d, s.continueFor k = { s with lastRead := l, draws := d } := by
  suffices hall : ∀ l d, ∃ l' d', { s with lastRead := l, draws := d }.continueFor k = { s with lastRead := l', draws := d' } from
    hall s.lastRead s.draws
  induction k with
  | zero => exact fun l d => ⟨l, d, rfl⟩
  | succ k ih =>
    intro l d
    rw [State.continueFor, h]
    exact ih _ _

/-- The poll of BUSY holds however often it is made. -/
theorem continueFor_pollReady {h : HostStep} {rest : List HostStep} (ht : s.ctx.todo = h :: rest)
    (hsub : s.ctx.setupStep = h.sub) (ha : h.act = .pollReady) (hb : s.busyRead = true) (k : Nat) :
    ∃ l d, s.continueFor k = { s with lastRead := l, draws := d } :=
  continueFor_of_held (r := .sdsr)
    (fun l d => continueOp_of_held (s := { s with lastRead := l, draws := d }) ht hsub
      (by rw [ha]; exact doAct_pollReady_of_busy hb)) k

/-- The poll of the reload flags holds however often it is made. -/
theorem continueFor_pollReload {h : HostStep} {rest : List HostStep} (ht : s.ctx.todo = h :: rest)
    (hsub : s.ctx.setupStep = h.sub) (ha : h.act = .pollReload) (hb : s.reloadReady = false) (k : Nat) :
    ∃ l d, s.continueFor k = { s with lastRead := l, draws := d } :=
  continueFor_of_held (r := .srcr)
    (fun l d => continueOp_of_held (s := { s with lastRead := l, draws := d }) ht hsub
      (by rw [ha]; exact doAct_pollReload_of_pending hb)) k

end

/-! ### Operations of one poll or one write -/

section
variable {s t : State} {a : Act}

theorem beginActs_one_of_done (e : doAct a { s with ctx := Ctx.idle } = .done t) : s.beginActs [a] = t.settle :=
  performStep_of_done (h := ⟨a, none, none⟩) e

theorem beginActs_one_of_stop {r : Stop} (e : doAct a { s with ctx := Ctx.idle } = .stop r) : s.beginActs [a] = s.mark r := by
  change performStep s { s with ctx := Ctx.idle } ⟨a, none, none⟩ = _
  simp only [performStep, e]

theorem beginActs_one_of_stay (e : doAct a { s with ctx := Ctx.idle } = .stay t) :
    s.beginActs [a] = { t with ctx := { t.ctx with todo := [⟨a, none, none⟩], setupStep := none } } := by
  have ht : t.ctx.todo = [] := doAct_stay_todo e
  change performStep s { s with ctx := Ctx.idle } ⟨a, none, none⟩ = _
  simp only [performStep, e, ht]
  rfl

end

/-! ### The obligations -/

/-- Settles O35: a poll of a flag that is ready is the operation's last host step, and one that holds leaves the position
(`continueFor_pollReady`, `continueFor_pollReload`). -/
theorem waitsPoll : Obligations.WaitsPoll := by
  intro s
  refine ⟨fun h => ?ready, fun h => ⟨_, rfl, ?busy, fun k => ?busyHolds⟩, fun h => ?reloaded,
    fun h => ⟨_, rfl, ?pending, fun k => ?pendingHolds⟩⟩
  case ready => exact congrArg _ (beginActs_one_of_done (doAct_pollReady_of_ready h))
  case reloaded => exact congrArg _ (beginActs_one_of_done (doAct_pollReload_of_ready h))
  case busy => exact beginActs_one_of_stay (doAct_pollReady_of_busy h)
  case pending => exact beginActs_one_of_stay (doAct_pollReload_of_pending h)
  case busyHolds =>
    have e := beginActs_one_of_stay (doAct_pollReady_of_busy (s := { s with ctx := Ctx.idle }) h)
    obtain ⟨l, d, hk⟩ := continueFor_pollReady (congrArg (·.ctx.todo) e) (congrArg (·.ctx.setupStep) e) rfl
      ((congrArg State.busyRead e).trans h) k
    rw [hk]
  case pendingHolds =>
    have e := beginActs_one_of_stay (doAct_pollReload_of_pending (s := { s with ctx := Ctx.idle }) h)
    obtain ⟨l, d, hk⟩ := continueFor_pollReload (congrArg (·.ctx.todo) e) (congrArg (·.ctx.setupStep) e) rfl
      ((congrArg State.reloadReady e).trans h) k
    rw [hk]

section
variable {s : State} {w : Word}

theorem giveCommand_of_not_fmcWritable (h : s.fmcWritable = false) : s.giveCommand w = { s with ctx := Ctx.idle } :=
  beginActs_one_of_done (t := { s with ctx := Ctx.idle })
    (by simp only [doAct, writeAct, regWrite_of_not_fmcWritable (r := .sdcmr) (s := { s with ctx := Ctx.idle }) rfl h])

theorem giveCommand_of_busy (h : s.fmcWritable = true) (hb : s.busy = true) :
    s.giveCommand w = s.raiseFault .commandCorrupted :=
  beginActs_one_of_stop (r := .fault .commandCorrupted)
    (by simp only [doAct, writeAct, regWrite_sdcmr_of_busy (s := { s with ctx := Ctx.idle }) h hb])

theorem giveCommand_of_ready (h : s.fmcWritable = true) (hb : s.busy = false) :
    s.giveCommand w = { s with sdcmr := w, fmcPending := some w, busy := true, ctx := Ctx.idle } :=
  beginActs_one_of_done (t := { s with sdcmr := w, fmcPending := some w, busy := true, ctx := Ctx.idle })
    (by simp only [doAct, writeAct, regWrite_sdcmr_of_ready (s := { s with ctx := Ctx.idle }) h hb])

end

/-- Settles O36: each of the four rows is one raw write of its word, which has three outcomes (`giveCommand_of_not_fmcWritable`,
`giveCommand_of_busy`, `giveCommand_of_ready`). -/
theorem commandWordsWritten : Obligations.CommandWordsWritten := by
  intro s b2 b1 n m i mode hi w
  have hexec : exec i s = .next (s.giveCommand w) := by
    simp only [List.mem_cons, Prod.mk.injEq, List.not_mem_nil, or_false] at hi
    obtain ⟨rfl, rfl⟩ | ⟨rfl, rfl⟩ | ⟨rfl, rfl⟩ | ⟨rfl, rfl⟩ := hi <;> rfl
  have hword : commandOf i = some (cmdWord mode b1 b2 n m) := by
    simp only [List.mem_cons, Prod.mk.injEq, List.not_mem_nil, or_false] at hi
    obtain ⟨rfl, rfl⟩ | ⟨rfl, rfl⟩ | ⟨rfl, rfl⟩ | ⟨rfl, rfl⟩ := hi <;> rfl
  refine ⟨fun hf => ?word, fun hw => ?ignored, fun hw hb => ?corrupted, fun hw hb => ?taken⟩
  case word =>
    have hw : w = SdcmrFields.default.word mode b1 b2 n m := congrArg (fun f => f.sdcmr.word mode b1 b2 n m) hf
    rw [hword, hw, commandWord_default_eq]
  case ignored => rw [hexec, giveCommand_of_not_fmcWritable hw]
  case corrupted => rw [hexec, giveCommand_of_busy hw hb]
  case taken => rw [hexec, giveCommand_of_ready hw hb]

/-- Settles O37: the step's outcomes are `fmcStep_of_pending` and `fmcStep_of_disabled`; a register that takes no writes is
read as its known part (`regValue_of_not_fmcWritable`). -/
theorem fmcStepAndGating : Obligations.FmcStepAndGating := by
  refine ⟨fun s h => fmcStep_of_disabled (by simp [State.fmcEnabled, h]), fun s w hp => ⟨fun he hf hr => ?logs, fun h => ?disabled⟩,
    fun s r w hr => ⟨fun he => ?unclocked, fun he hf => ?held⟩⟩
  case logs => exact fmcStep_of_pending hp (fmcWritable_eq_true_iff.2 ⟨he, hf⟩) hr
  case disabled =>
    refine fmcStep_of_disabled ?_
    rcases h with h | h | h <;> simp [State.fmcEnabled, State.fmcWritable, h]
  case unclocked =>
    have hw := fmcWritable_of_fmcen he
    exact ⟨regWrite_of_not_fmcWritable hr hw, (regValue_of_not_fmcWritable hr hw).trans (regKnown_of_unclocked hr he)⟩
  case held =>
    have hw := fmcWritable_of_fmcrst hf
    exact ⟨regWrite_of_not_fmcWritable hr hw, (regValue_of_not_fmcWritable hr hw).trans (regKnown_of_heldInReset hr he hf)⟩

end Sys2Proof.Machine
end

section
/-! PROOFS, family 44_sdram_sequencer: SD_SEND_CMD (R242, R251) and the refusals of SD_BRINGUP (R223, R229, R250). -/

namespace Sys2Proof.Machine

/-! ### The four host steps of SD_SEND_CMD (R242) -/

/-- SD_SEND_CMD after its first host step: interrupts are masked, and the poll, the write of the word `w` and CS_EXIT are still to
be made. -/
def State.sendBegun (s : State) (w : Word) : State :=
  { s.csEnter with ctx := { todo := plainSteps [.pollReady, .write .sdcmr w, .leave] } }

section
variable {s : State} {b : Bank} {bank mode nrfs : Byte} {mrd : BitVec 16}

theorem exec_sdSendCmd (hb : bankOf bank = some b) (hm : mode ∈ ([1, 2, 3, 4] : List Byte)) (hn : nrfs.toNat < 16)
    (hd : mrd.toNat < 8192) : exec (.sdSendCmd bank mode nrfs mrd) s =
      .next (s.sendBegun (s.fields.sdcmr.word (mode.setWidth 3) b.ctb1 b.ctb2 (nrfs.setWidth 4) (mrd.setWidth 13))) := by
  have hcodes : ∀ c ∈ ([1, 2, 3, 4] : List Byte), u3Ok c = true ∧ commandIssued c = true := by decide
  obtain ⟨hu3, hissued⟩ := hcodes mode hm
  simp only [exec, execSdSendCmd, hb, hu3, hissued, u4Ok, hn, u13Ok, hd, decide_true, Bool.and_self, Bool.not_true,
    Bool.false_eq_true, if_false]
  rfl

theorem exec_sdSendCmd_unsupported (hb : bank.toNat < 3) (hm : mode ∈ ([0, 5, 6, 7] : List Byte)) (hn : nrfs.toNat < 16)
    (hd : mrd.toNat < 8192) : exec (.sdSendCmd bank mode nrfs mrd) s = .next (s.refuse .unsupportedCommand) := by
  have hcodes : ∀ c ∈ ([0, 5, 6, 7] : List Byte), u3Ok c = true ∧ commandIssued c = false := by decide
  obtain ⟨hu3, hissued⟩ := hcodes mode hm
  have hok : bankOk bank = true := decide_eq_true hb
  obtain ⟨c, hc⟩ := Option.isSome_iff_exists.1 ((bankOk_eq_isSome bank).symm.trans hok)
  simp [exec, execSdSendCmd, hc, hu3, hissued, u4Ok, hn, u13Ok, hd]

end

theorem doAct_write {s t : State} {r : Reg} {w : Word} (h : s.regWrite r w = .ok t) : doAct (.write r w) s = .done t := by
  simp only [doAct, writeAct, h]

section
variable {u : State} {w : Word}

/-- The poll of SD_SEND_CMD passes when BUSY reads 0. -/
theorem continueOp_sendPoll (hc : u.ctx = { todo := plainSteps [.pollReady, .write .sdcmr w, .leave] })
    (hb : u.busyRead = false) :
    u.continueOp = { u.regRead .sdsr with ctx := { todo := plainSteps [.write .sdcmr w, .leave] } } := by
  have ht : u.ctx.todo = ⟨.pollReady, none, none⟩ :: plainSteps [.write .sdcmr w, .leave] := by rw [hc]; rfl
  rw [continueOp_of_done ht (doAct_pollReady_of_ready (by exact hb)), hc]
  rfl

/-- The write of SD_SEND_CMD: the word is pending, or ignored while the FMC takes no writes. -/
theorem continueOp_sendWrite (hc : u.ctx = { todo := plainSteps [.write .sdcmr w, .leave] }) (hb : u.busyRead = false) :
    (u.fmcWritable = true → u.continueOp =
      { u with sdcmr := w, fmcPending := some w, busy := true, ctx := { todo := plainSteps [.leave] } }) ∧
    (u.fmcWritable = false → u.continueOp = { u with ctx := { todo := plainSteps [.leave] } }) := by
  have ht : u.ctx.todo = ⟨.write .sdcmr w, none, none⟩ :: plainSteps [.leave] := by rw [hc]; rfl
  refine ⟨fun hw => ?_, fun hw => ?_⟩
  · rw [continueOp_of_done ht (doAct_write (regWrite_sdcmr_of_ready hw (busy_of_busyRead hb hw))), hc]
    rfl
  · rw [continueOp_of_done ht (doAct_write (regWrite_of_not_fmcWritable rfl hw)), hc]
    rfl

/-- CS_EXIT as the last host step: mask and stack are as before the matching CS_ENTER, and the operation returns. -/
theorem continueOp_sendLeave {m : Bool} {st : List Bool} (hc : u.ctx = { todo := plainSteps [.leave] })
    (hs : u.csStack = m :: st) : u.continueOp = { u with imask := m, csStack := st, ctx := Ctx.idle } := by
  have ht : u.ctx.todo = ⟨.leave, none, none⟩ :: [] := by rw [hc]; rfl
  rw [continueOp_of_done (t := { u with ctx := Ctx.idle, imask := m, csStack := st }) ht]
  · rfl
  · simp only [doAct, State.csExit?, hs, hc]
    rfl

/-- The three host steps that SD_SEND_CMD makes after its first: read BUSY as 0, write the word, restore the mask. -/
theorem continueFor_send {m : Bool} {st : List Bool}
    (hc : u.ctx = { todo := plainSteps [.pollReady, .write .sdcmr w, .leave] }) (hb : u.busyRead = false)
    (hs : u.csStack = m :: st) :
    (∀ k < 3, (u.continueFor k).imask = u.imask ∧ (u.continueFor k).ctx.todo ≠ []) ∧
    (u.fmcWritable = true → u.continueFor 3 = { u.regRead .sdsr with
      sdcmr := w, fmcPending := some w, busy := true, imask := m, csStack := st, ctx := Ctx.idle }) ∧
    (u.fmcWritable = false → u.continueFor 3 = { u.regRead .sdsr with imask := m, csStack := st, ctx := Ctx.idle }) := by
  have e₁ : u.continueFor 1 = { u.regRead .sdsr with ctx := { todo := plainSteps [.write .sdcmr w, .leave] } } :=
    continueOp_sendPoll hc hb
  have e₂ : u.continueFor 2 = (u.continueFor 1).continueOp := rfl
  obtain ⟨taken, ignored⟩ := continueOp_sendWrite (u := u.continueFor 1) (w := w) (by rw [e₁]) (by rw [e₁]; exact hb)
  have hwritable : (u.continueFor 1).fmcWritable = u.fmcWritable := by rw [e₁]; rfl
  rw [← e₂, hwritable, e₁] at taken ignored
  refine ⟨fun k hk => ?masked, fun hw => ?taken, fun hw => ?ignored⟩
  case masked =>
    obtain rfl | rfl | rfl : k = 0 ∨ k = 1 ∨ k = 2 := by omega
    · exact ⟨rfl, by simp [State.continueFor, hc, plainSteps]⟩
    · simp [e₁, State.regRead, plainSteps]
    · cases hw : u.fmcWritable with
      | true => simp [taken hw, State.regRead, plainSteps]
      | false => simp [ignored hw, State.regRead, plainSteps]
  case taken => exact (congrArg State.continueOp (taken hw)).trans (continueOp_sendLeave rfl hs)
  case ignored => exact (congrArg State.continueOp (ignored hw)).trans (continueOp_sendLeave rfl hs)

end

/-! ### The obligations on SD_SEND_CMD -/

theorem refuse_stopped (s : State) (r : Refusal) : (s.refuse r).stopped = true := by
  cases h : s.refused <;> simp [State.stopped, State.refuse, h]

/-- SD_SEND_CMD is refused, or masks interrupts in its first host step. -/
theorem exec_sdSendCmd_cases {s t : State} {bank mode nrfs : Byte} {mrd : BitVec 16}
    (e : exec (.sdSendCmd bank mode nrfs mrd) s = .next t) : (∃ r, t = s.refuse r) ∨ ∃ w, t = s.sendBegun w := by
  simp only [exec, execSdSendCmd] at e
  split at e
  · exact .inl ⟨_, (Host.Outcome.next.inj e).symm⟩
  · next b _ =>
    split at e
    · exact .inl ⟨_, (Host.Outcome.next.inj e).symm⟩
    · split at e
      · exact .inl ⟨_, (Host.Outcome.next.inj e).symm⟩
      · exact .inr ⟨_, (Host.Outcome.next.inj e).symm⟩

/-- Settles O60: the word is corrupted at the write (`regWrite_sdcmr_of_busy`); an SD_SEND_CMD that is not refused has masked
interrupts in its first host step (`exec_sdSendCmd_cases`). -/
theorem mailboxHazard : Obligations.MailboxHazard := by
  refine ⟨fun s w hw hb => irqItem_regWrite_fault rfl (regWrite_sdcmr_of_busy hw hb), fun s t bank mode nrfs mrd _ e hs => ?_⟩
  obtain ⟨r, rfl⟩ | ⟨w, rfl⟩ := exec_sdSendCmd_cases e
  · exact absurd (refuse_stopped s r) (by simp [hs])
  · simp [State.irqMayBegin, State.sendBegun, State.csEnter]

/-- Settles O34: the first host step is `exec_sdSendCmd`, the other three are `continueFor_send`; while BUSY reads 1 the poll
holds (`continueFor_pollReady`), and the FMC's step clears BUSY (`fmcStep_of_pending`). -/
theorem sendCmdResult : Obligations.SendCmdResult := by
  refine ⟨fun s b bank mode nrfs mrd hb hm hn hd hr => ?ready, fun s b bank mode nrfs mrd hb hm hn hd hr => ?busy,
    fun s bank mode nrfs mrd hb hm hn hd => exec_sdSendCmd_unsupported hb hm hn hd⟩
  case ready =>
    intro w
    obtain ⟨hmask, htaken, hignored⟩ := continueFor_send (u := s.sendBegun w) (w := w) rfl hr rfl
    refine ⟨fun hf => ?_, s.sendBegun w, exec_sdSendCmd hb hm hn hd, hmask, htaken, hignored⟩
    have hmode : mode.toNat < 8 := (by decide : ∀ c ∈ ([1, 2, 3, 4] : List Byte), c.toNat < 8) mode hm
    have hdef : s.fields.sdcmr = SdcmrFields.default := congrArg (·.sdcmr) hf
    have hmode' : (mode.setWidth 3).toNat = mode.toNat := by simp [Nat.mod_eq_of_lt hmode]
    have hn' : (nrfs.setWidth 4).toNat = nrfs.toNat := by simp [Nat.mod_eq_of_lt hn]
    have hd' : (mrd.setWidth 13).toNat = mrd.toNat := by simp [Nat.mod_eq_of_lt hd]
    simp only [w, hdef, commandWord_default, hmode', hn', hd']
    cases b <;> rfl
  case busy =>
    intro w
    refine ⟨s.sendBegun w, exec_sdSendCmd hb hm hn hd, by simp [State.sendBegun, plainSteps], rfl, fun k => ?_⟩
    obtain ⟨hw, hbusy⟩ := busyRead_eq_true_iff.1 hr
    obtain ⟨l, d, e⟩ := continueFor_pollReady (s := s.sendBegun w) rfl rfl rfl hr k
    rw [e]
    refine ⟨rfl, fun hp hresp => ?_⟩
    obtain ⟨p, hp⟩ := Option.isSome_iff_exists.1 hp
    have hstep := fmcStep_of_pending (s := { s.sendBegun w with lastRead := l, draws := d }) hp hw hresp
    simp only [hstep]
    refine ⟨by simp [State.busyRead], (continueFor_send rfl (by simp [State.busyRead]) rfl).2.1 hw⟩

/-! ### The refusals of SD_BRINGUP (R223, R229) -/

/-- A value has a field code exactly if the table lists it. -/
theorem fieldCode_isSome_iff {k : Nat} (l : List (Nat × BitVec k)) (x : Nat) :
    (fieldCode l x).isSome = true ↔ x ∈ l.map Prod.fst := by
  induction l with
  | nil => simp [fieldCode]
  | cons q l ih =>
    rw [fieldCode, List.map_cons, List.mem_cons, ← ih]
    by_cases h : q.1 = x
    · simp [h]
    · simp [h, Ne.symm h]

theorem isSome_bind_iff {α β : Type} {x : Option α} {f : α → Option β} {P : Prop} (h : ∀ a, (f a).isSome = true ↔ P) :
    (x >>= f).isSome = true ↔ x.isSome = true ∧ P := by
  cases x with
  | none => simp
  | some a => simpa using h a

theorem sdcrWord_isSome_iff (m : FieldMap) (fv : SdramFieldValues) (g : Geometry) : (sdcrWord m fv g).isSome = true ↔
    g.colBits.toNat ∈ fv.colBits.map Prod.fst ∧ g.rowBits.toNat ∈ fv.rowBits.map Prod.fst ∧
    g.dataWidth.toNat ∈ fv.dataWidth.map Prod.fst ∧ g.internalBanks.toNat ∈ fv.internalBanks.map Prod.fst ∧
    g.casLatency.toNat ∈ fv.casLatency.map Prod.fst ∧ g.sdclkDiv.toNat ∈ fv.sdclkDiv.map Prod.fst ∧
    g.readPipe.toNat ∈ fv.readPipe.map Prod.fst := by
  simp only [← fieldCode_isSome_iff]
  exact isSome_bind_iff fun _ => isSome_bind_iff fun _ => isSome_bind_iff fun _ => isSome_bind_iff fun _ =>
    isSome_bind_iff fun _ => isSome_bind_iff fun _ => (isSome_bind_iff (P := True) fun _ => by simp).trans (by rw [and_true])

theorem modeWord_isSome_iff (p : Params) (mp : ModeParams) :
    (modeWord p mp).isSome = true ↔ modeConfigOk mp.mode = true ∧ casOk mp.casLatency = true := by
  simp [modeWord]

theorem bringupWords_isSome_iff (p : Params) (cfg : SdramConfig) : (bringupWords p cfg).isSome = true ↔
    (sdcrWord p.regMap.fields p.fieldValues cfg.geometry).isSome = true ∧
    (modeWord p ⟨cfg.mode, cfg.geometry.casLatency⟩).isSome = true :=
  isSome_bind_iff fun _ => (isSome_bind_iff (P := True) fun _ => by simp).trans (by rw [and_true])

section
variable {s : State} {bank : Byte} {cfg : SdramConfig}

theorem sdBringup_wf (h : Instr.wf s.numLayers s.params.fieldValues (.sdBringup bank cfg) = true) :
    (∃ b, bankOf bank = some b) ∧ boolOk cfg.geometry.writeProtect = true ∧ boolOk cfg.geometry.readBurst = true := by
  simp only [Instr.wf, Bool.and_eq_true] at h
  obtain ⟨⟨hbank, hwp⟩, hrb⟩ := h
  exact ⟨Option.isSome_iff_exists.1 ((bankOk_eq_isSome bank).symm.trans hbank), hwp, hrb⟩

/-- The first host step of a bring-up that passes every check. -/
theorem exec_sdBringup {b : Bank} {sdcr : Word} {mr : BitVec 13} {cyc : TimingSpecCycles}
    (h : Instr.wf s.numLayers s.params.fieldValues (.sdBringup bank cfg) = true) (hb : bankOf bank = some b)
    (hi : s.seqPhase = .idle) (hw : bringupWords s.params cfg = some (sdcr, mr)) (hc : s.counterEnabled = true)
    (hcyc : bringupCycles s.params cfg = .ok cyc) : exec (.sdBringup bank cfg) s =
      .next (s.beginSteps (bringupSteps s.params b sdcr (sdtrWord s.fields cyc) mr cyc.refresh)) := by
  obtain ⟨_, hwp, hrb⟩ := sdBringup_wf h
  simp [exec, execSdBringup, hb, hwp, hrb, hi, hw, hc, hcyc]

end

/-- Settles O38: a well-typed bring-up passes the type checks (`sdBringup_wf`) and stops at the first other check that fails;
the legal sets are `sdcrWord_isSome_iff` and `modeConfigOk_iff`. -/
theorem bringupRefusals : Obligations.BringupRefusals := by
  refine ⟨fun m g => sdcrWord_isSome_iff m {} g, fun p mp => ?modes, bringupWords_isSome_iff,
    fun s bank cfg hwf => ?order⟩
  case modes =>
    have hbool (n : Nat) : n < 2 ↔ n ∈ [0, 1] := by simp; omega
    rw [modeWord_isSome_iff, modeConfigOk_iff, casOk_iff, hbool, hbool]
    tauto
  case order =>
    obtain ⟨⟨b, hb⟩, hwp, hrb⟩ := sdBringup_wf hwf
    refine ⟨fun hi => ?reentered, fun hi hw => ?illegal, fun hi hw hc => ?disabled, fun r hi hw hc hr => ?conversion⟩
    case reentered => simp [exec, execSdBringup, hb, hwp, hrb, hi]
    case illegal => simp [exec, execSdBringup, hb, hwp, hrb, hi, hw]
    case disabled =>
      obtain ⟨⟨sdcr, mr⟩, hw⟩ := Option.isSome_iff_exists.1 hw
      simp [exec, execSdBringup, hb, hwp, hrb, hi, hw, hc]
    case conversion =>
      obtain ⟨⟨sdcr, mr⟩, hw⟩ := Option.isSome_iff_exists.1 hw
      simp [exec, execSdBringup, hb, hwp, hrb, hi, hw, hc, hr]

end Sys2Proof.Machine
end

section
/-! PROOFS, family 44_sdram_sequencer: a host in the middle of an operation that no activation can preempt. What a step can do
(`step_unpreempted`), the waits that never end (R249, R294), and the power-up law (R236, R378). -/

namespace Sys2Proof.Machine

/-! ### A step that cannot preempt (R344, R348) -/

/-- What a step can do to a host that is in the middle of an operation and that no activation preempts; the flag says that it is a
TICK step. -/
inductive UnpreemptedMove (s : State) : Bool → State → Prop where
  | idle : UnpreemptedMove s false s
  | refuse (r : Refusal) : UnpreemptedMove s false (s.refuse r)
  | goOn : UnpreemptedMove s false s.continueOp
  | tick : UnpreemptedMove s true { s with cyccnt := s.cyccnt + 1 }
  | fmc : UnpreemptedMove s false s.fmcStep
  | reload : UnpreemptedMove s false s.ltdcReloadStep
  | vblank : UnpreemptedMove s false s.ltdcVBlankStep

section
variable {s t : State}

/-- With interrupts masked, or with an empty program, no activation begins. -/
theorem irqStep_unpreempted (hi : s.irq = none) (hm : s.imask = true ∨ s.params.irqProgram = []) :
    irqStepWith exec s = .next s := by
  rcases hm with hm | hm
  · exact irqStep_masked hi hm
  · simp [irqStepWith, State.irqBegin, hi, hm]

theorem agentStep_unpreempted {m : Mover} (hi : s.irq = none) (hm : s.imask = true ∨ s.params.irqProgram = [])
    (ht : s.ctx.todo ≠ []) (e : agentStepWith exec m s = .next t) :
    UnpreemptedMove s (m == .tick && s.counterEnabled) t := by
  cases m with
  | host =>
    cases hostStep_move e with
    | idle => exact .idle
    | goOn _ => exact .goOn
    | interact h _ => exact absurd h ht
  | irq => cases (irqStep_unpreempted hi hm).symm.trans e; exact .idle
  | tick =>
    cases e
    cases hc : s.counterEnabled with
    | true => rw [tickStep_of_enabled hc]; exact .tick
    | false => rw [State.tickStep, hc, if_neg Bool.false_ne_true]; exact .idle
  | fmc => cases e; exact .fmc
  | ltdcReload => cases e; exact .reload
  | ltdcVBlank => cases e; exact .vblank

/-- What a step can do, once the turn is taken. -/
theorem step_unpreempted (hi : s.irq = none) (hm : s.imask = true ∨ s.params.irqProgram = []) (ht : s.ctx.todo ≠ [])
    (e : step s = .next t) : ∃ ms d, UnpreemptedMove { s with sched := ms, draws := d } s.ticksNext t := by
  rcases step_cases e with ⟨rfl, ha⟩ | ⟨e, ha⟩
  · have hn : s.ticksNext = false := by simp [State.ticksNext, ha]
    exact ⟨s.sched, s.draws, hn ▸ .refuse _⟩
  · have hn : s.ticksNext = (s.mover == .tick && s.counterEnabled) := by simp [State.ticksNext, ha]
    obtain ⟨ms, d, hu⟩ := takeMover_state s
    rw [hu] at e
    exact ⟨ms, d, hn ▸ agentStep_unpreempted (s := { s with sched := ms, draws := d }) hi hm ht e⟩

end

/-! ### The waits that never end (R249, R294) -/

/-- A flag at which the poll `a` holds, and which no step that can happen while it holds clears. -/
structure HangsAt (a : Act) (flag : State → Prop) : Prop where
  holds : ∀ {s}, flag s → ∃ r, doAct a s = .stay (s.regRead r)
  same : ∀ {s} (ms : List Mover) (d : Nat) (l : Option ReadRec) (c : Ctx) (n : Word) (q : Option Refusal), flag s →
    flag { s with sched := ms, draws := d, lastRead := l, ctx := c, cyccnt := n, refused := q }
  fmc : ∀ {s}, flag s → flag s.fmcStep
  reload : ∀ {s}, flag s → flag s.ltdcReloadStep
  vblank : ∀ {s}, flag s → flag s.ltdcVBlankStep

/-- The host stands at the first of the steps `l`, with `flag`, and no activation can begin. -/
structure State.HeldAt (l : List HostStep) (flag : State → Prop) (s : State) : Prop where
  irq : s.irq = none
  program : s.params.irqProgram = []
  todo : s.ctx.todo = l
  flag : flag s

section
variable {s t : State} {h : HostStep} {rest : List HostStep} {flag : State → Prop}

theorem State.HeldAt.same (k : HangsAt h.act flag) (hs : s.HeldAt (h :: rest) flag) (ms : List Mover) (d : Nat)
    (l : Option ReadRec) {c : Ctx} (hc : c.todo = s.ctx.todo) (n : Word) (q : Option Refusal) :
    State.HeldAt (h :: rest) flag { s with sched := ms, draws := d, lastRead := l, ctx := c, cyccnt := n, refused := q } :=
  ⟨hs.irq, hs.program, hc.trans hs.todo, k.same ms d l c n q hs.flag⟩

/-- An agent's step that leaves the position leaves the host where it hangs. -/
theorem State.HeldAt.position (hs : s.HeldAt (h :: rest) flag) (hp : SamePosition s t) (hf : flag t) :
    t.HeldAt (h :: rest) flag :=
  ⟨hp.irq.trans hs.irq, hp.params ▸ hs.program, hp.ctx ▸ hs.todo, hf⟩

theorem State.HeldAt.step (k : HangsAt h.act flag) (hs : s.HeldAt (h :: rest) flag) (e : Machine.step s = .next t) :
    t.HeldAt (h :: rest) flag := by
  obtain ⟨ms, d, move⟩ := step_unpreempted hs.irq (.inr hs.program) (by rw [hs.todo]; exact List.cons_ne_nil _ _) e
  have hv := hs.same k ms d s.lastRead rfl s.cyccnt s.refused
  generalize s.ticksNext = b, ({ s with sched := ms, draws := d } : State) = v at move hv
  cases move with
  | idle => exact hv
  | refuse r => exact hv.same k v.sched v.draws v.lastRead rfl v.cyccnt (v.refuse r).refused
  | tick => exact hv.same k v.sched v.draws v.lastRead rfl (v.cyccnt + 1) v.refused
  | fmc => exact hv.position (fmcStep_position v) (k.fmc hv.flag)
  | reload => exact hv.position (ltdcReloadStep_position v) (k.reload hv.flag)
  | vblank => exact hv.position (ltdcVBlankStep_position v) (k.vblank hv.flag)
  | goOn =>
    obtain ⟨r, hr⟩ := k.holds (k.same v.sched v.draws v.lastRead { v.ctx with todo := rest } v.cyccnt v.refused hv.flag)
    rw [continueOp_of_stay hv.todo hr]
    exact hv.same k v.sched (v.draws + 1) _ (c := { v.ctx with setupStep := h.sub }) rfl v.cyccnt v.refused

theorem State.HeldAt.runFor (k : HangsAt h.act flag) {n : Nat} (hs : s.HeldAt (h :: rest) flag)
    (e : runFor n s = .next t) : t.HeldAt (h :: rest) flag := by
  induction n generalizing s with
  | zero => cases e; exact hs
  | succ n ih =>
    obtain ⟨u, hu, e⟩ := runFor_succ_next e
    exact ih (hs.step k hu) e

theorem ltdcReloadStep_of_disabled (h : s.reloadEnabled = false) : s.ltdcReloadStep = s := by
  simp [State.ltdcReloadStep, h]

theorem ltdcVBlankStep_of_disabled (h : s.vblankEnabled = false) : s.ltdcVBlankStep = s := by
  simp [State.ltdcVBlankStep, h]

end

/-- BUSY stays set, with an FMC that does not respond. -/
theorem hangsAt_busy : HangsAt .pollReady fun s => s.busyRead = true ∧ s.params.fmcResponds = false where
  holds h := ⟨_, doAct_pollReady_of_busy h.1⟩
  same _ _ _ _ _ _ h := h
  fmc h := by rwa [fmcStep_of_disabled (by simp [State.fmcEnabled, h.2])]
  reload h := by unfold State.ltdcReloadStep; split <;> exact h
  vblank h := by
    unfold State.ltdcVBlankStep
    split
    · split <;> exact h
    · exact h

theorem fmcStep_srcr (s : State) : s.fmcStep.srcr = s.srcr ∧ s.fmcStep.gcr = s.gcr := by
  unfold State.fmcStep
  split
  · split <;> exact ⟨rfl, rfl⟩
  · exact ⟨rfl, rfl⟩

/-- A reload flag stays set, with an LTDC that does not respond. -/
theorem hangsAt_reload : HangsAt .pollReload fun s => s.reloadReady = false ∧ s.params.ltdcResponds = false where
  holds h := ⟨_, doAct_pollReload_of_pending h.1⟩
  same _ _ _ _ _ _ h := h
  fmc {s} h := by
    obtain ⟨hsrcr, -⟩ := fmcStep_srcr s
    have hp := (fmcStep_position s).params
    simpa only [State.reloadReady, State.imr, State.vbr, hsrcr, hp] using h
  reload h := by rwa [ltdcReloadStep_of_disabled (by simp [State.reloadEnabled, h.2])]
  vblank h := by rwa [ltdcVBlankStep_of_disabled (by simp [State.vblankEnabled, h.2])]

/-- The immediate reload clears IMR and leaves VBR, which has no bit of it. -/
theorem vbr_ltdcReloadStep {s : State} (hp : s.params.layoutOk = true) : s.ltdcReloadStep.vbr = s.vbr := by
  have hfit : fieldsFit [s.fields.imr, s.fields.vbr] = true := layoutOk_fits hp (r := .srcr) (by decide)
  have hkept (w : Word) : s.fields.vbr.get (w &&& ~~~s.fields.imr.mask) = s.fields.vbr.get w := by
    simpa using s.fields.vbr.get_modify_apart s.fields.imr w 0 (fieldsFit_le hfit (by simp))
      (apart_symm (fieldsFit_apart hfit (by simp)))
  unfold State.ltdcReloadStep
  split
  · simp only [State.vbr, BitField.isSet, hkept]
  · rfl

/-- VBR stays set while the controller is disabled. -/
theorem hangsAt_vbr :
    HangsAt .pollReload fun s => s.vbr = true ∧ s.ltdcEnabled = false ∧ s.params.layoutOk = true where
  holds h := ⟨_, doAct_pollReload_of_pending (by simp [State.reloadReady, h.1])⟩
  same _ _ _ _ _ _ h := h
  fmc {s} h := by
    obtain ⟨hsrcr, hgcr⟩ := fmcStep_srcr s
    have hp := (fmcStep_position s).params
    simpa only [State.vbr, State.ltdcEnabled, hsrcr, hgcr, hp] using h
  reload {s} h := by
    obtain ⟨hv, he, hl⟩ := h
    refine ⟨(vbr_ltdcReloadStep hl).trans hv, ?_⟩
    unfold State.ltdcReloadStep
    split <;> exact ⟨he, hl⟩
  vblank h := by rwa [ltdcVBlankStep_of_disabled (by simp [State.vblankEnabled, h.2.1])]

/-- Settles O54: each flag is one at which the host hangs (`hangsAt_busy`, `hangsAt_reload`, `hangsAt_vbr`), under every schedule
(`State.HeldAt.runFor`). -/
theorem waitsThatHang : Obligations.WaitsThatHang := by
  intro s t h rest k hprog hirq htodo e
  have held {a : Act} {flag : State → Prop} (hk : HangsAt a flag) (ha : h.act = a) (hf : flag s) :
      t.ctx.todo = h :: rest ∧ flag t :=
    have ht := State.HeldAt.runFor (ha ▸ hk) ⟨hirq, hprog, htodo, hf⟩ e
    ⟨ht.todo, ht.flag⟩
  refine ⟨fun ha hb hr => ?busy, fun ha hp hr => ?reload, fun hl ha hv he => ?vbr⟩
  case busy =>
    obtain ⟨ht, hb, -⟩ := held hangsAt_busy ha ⟨hb, hr⟩
    exact ⟨ht, hb⟩
  case reload =>
    obtain ⟨ht, hp, -⟩ := held hangsAt_reload ha ⟨hp, hr⟩
    exact ⟨ht, hp⟩
  case vbr =>
    obtain ⟨ht, hv, -⟩ := held hangsAt_vbr ha ⟨hv, he, hl⟩
    exact ⟨ht, hv⟩

end Sys2Proof.Machine
end

section
/-! PROOFS, family 44_sdram_sequencer: the power-up law (R236, R378). Of the host steps of a bring-up that write a command word
only the first can be followed by the one that writes PALL as the law says (`clk_cases`), and the delay between the two is
followed along the run with the ticks still due (`TicksDue`). -/

namespace Sys2Proof.Machine

/-! ### The host steps of a bring-up that write a command word -/

/-- The host step writes a command word. -/
def HostStep.commands (h : HostStep) : Bool :=
  match h.act with
  | .write .sdcmr _ => true
  | _ => false

section
variable {l a b : List HostStep} {h : HostStep}

/-- A suffix that begins with a command begins after every list that has none. -/
theorem suffix_of_commands (hs : l <:+ a ++ b) (hh : l.head? = some h) (hc : h.commands = true)
    (ha : a.any HostStep.commands = false) : l <:+ b := by
  induction a with
  | nil => exact hs
  | cons x a ih =>
    obtain ⟨hx, ha⟩ := Bool.or_eq_false_iff.1 ha
    rcases List.suffix_cons_iff.1 hs with rfl | hs
    · cases hh
      exact absurd hc (by simp [hx])
    · exact ih hs ha

/-- A suffix that begins with a command begins with this one, or after the steps up to the next. -/
theorem suffix_command_cons {w v : Word} {q r : Option SeqPhase} (hs : l <:+ ⟨.write .sdcmr v, r, none⟩ :: (a ++ b))
    (hh : l.head? = some ⟨.write .sdcmr w, q, none⟩) (ha : a.any HostStep.commands = false) :
    w = v ∧ l = ⟨.write .sdcmr v, r, none⟩ :: (a ++ b) ∨ l <:+ b := by
  rcases List.suffix_cons_iff.1 hs with rfl | hs
  · cases hh
    exact .inl ⟨rfl, rfl⟩
  · exact .inr (suffix_of_commands hs hh rfl ha)

end

section
variable (p : Params) (b : Bank) (sdcr sdtr : Word) (mr : BitVec 13) (refresh : BitVec 16)

/-- The command word of MODE `mode` in a bring-up (R236 to R239). -/
def bringupWord (mode : BitVec 3) (nrfs : BitVec 4) (mrd : BitVec 13) : Word :=
  p.regMap.fields.sdcmr.word mode b.ctb1 b.ctb2 nrfs mrd

/-- The host steps from the write of the load-mode-register command on. -/
def stepsFromLmr : List HostStep :=
  [⟨.write .sdcmr (bringupWord p b 4 0 mr), none, none⟩, ⟨.pollReady, some .refresh, none⟩,
    ⟨.write .sdrtr (sdrtrWord p.regMap.fields refresh), some .live, none⟩, ⟨.leave, none, none⟩]

/-- The host steps from the write of the auto-refresh command on. -/
def stepsFromAref : List HostStep :=
  ⟨.write .sdcmr (bringupWord p b 3 7 0), none, none⟩ :: ([⟨.pollReady, some .cmdLmr, none⟩, ⟨.pollReady, none, none⟩] ++
    stepsFromLmr p b mr refresh)

/-- The host steps from the write of the precharge-all command on. -/
def stepsFromPall : List HostStep :=
  ⟨.write .sdcmr (bringupWord p b 2 0 0), none, none⟩ :: ([⟨.pollReady, some .cmdAref, none⟩, ⟨.pollReady, none, none⟩] ++
    stepsFromAref p b mr refresh)

/-- The host steps from the write of the clock-enable command on. -/
def stepsFromClk : List HostStep :=
  ⟨.write .sdcmr (bringupWord p b 1 0 0), none, none⟩ ::
    ([⟨.delayStart (powerupTicks p.clkHz), none, none⟩, ⟨.delayPoll, none, none⟩, ⟨.pollReady, some .cmdPall, none⟩,
      ⟨.pollReady, none, none⟩] ++ stepsFromPall p b mr refresh)

/-- The host steps before the clock-enable command. -/
def stepsToClk : List HostStep :=
  [⟨.enterBringup b, none, none⟩, ⟨.clockBranch, none, none⟩] ++
    phaseSteps .timing (geometryActs b sdcr (ctrlMask p.regMap.fields p.bank1OnlyCtrl)) ++
    phaseSteps .cmdClk (timingActs b sdtr (timMask p.regMap.fields p.bank1OnlyTiming)) ++ [⟨.pollReady, none, none⟩]

theorem bringupSteps_eq (ht : powerupTicks p.clkHz ≠ 0) : bringupSteps p b sdcr sdtr mr refresh =
    stepsToClk p b sdcr sdtr ++ stepsFromClk p b mr refresh := by
  rw [bringupSteps, cmdClkActs, delayActs, if_neg ht]
  simp only [stepsToClk, List.append_assoc]
  rfl

theorem stepsToClk_commands : (stepsToClk p b sdcr sdtr).any HostStep.commands = false := by
  cases b <;> rfl

end

section
variable {p : Params} {b : Bank} {sdcr sdtr : Word} {mr : BitVec 13} {refresh : BitVec 16} {l : List HostStep} {w : Word}
  {q : Option SeqPhase}

/-- The load-mode-register command is the last of a bring-up. -/
theorem suffix_stepsFromLmr (hs : l <:+ stepsFromLmr p b mr refresh) (hh : l.head? = some ⟨.write .sdcmr w, q, none⟩) :
    w = bringupWord p b 4 0 mr ∧ l = stepsFromLmr p b mr refresh := by
  refine (suffix_command_cons (a := (stepsFromLmr p b mr refresh).tail) (b := []) hs hh rfl).resolve_right fun h => ?_
  rw [List.suffix_nil.1 h] at hh
  cases hh

/-- Where a bring-up writes a command word. -/
theorem suffix_bringupSteps (ht : powerupTicks p.clkHz ≠ 0) (hs : l <:+ bringupSteps p b sdcr sdtr mr refresh)
    (hh : l.head? = some ⟨.write .sdcmr w, q, none⟩) :
    w = bringupWord p b 1 0 0 ∧ l = stepsFromClk p b mr refresh ∨ w = bringupWord p b 2 0 0 ∨ w = bringupWord p b 3 7 0 ∨
      w = bringupWord p b 4 0 mr ∧ l = stepsFromLmr p b mr refresh := by
  rw [bringupSteps_eq p b sdcr sdtr mr refresh ht] at hs
  have hs := suffix_of_commands hs hh rfl (stepsToClk_commands p b sdcr sdtr)
  refine (suffix_command_cons hs hh rfl).imp id fun hs => ?_
  refine (suffix_command_cons hs hh rfl).imp And.left fun hs => ?_
  exact (suffix_command_cons hs hh rfl).imp And.left fun hs => suffix_stepsFromLmr hs hh

/-- Where a field can hold 2, a word into which a number with bit 1 is put holds no 1 there. -/
theorem get_word_ne_one {m : SdcmrFields} {v : Word} (hv : m.mode.get v = 2) {mode : BitVec 3} (hm : mode.getLsbD 1 = true)
    (c₁ c₂ : Bool) (n : BitVec 4) (d : BitVec 13) : m.mode.get (m.word mode c₁ c₂ n d) ≠ 1 := by
  intro h
  have hbit : (m.mode.get v).testBit 1 = true := by rw [hv]; rfl
  have hone : (m.mode.get (m.word mode c₁ c₂ n d)).testBit 1 = false := by rw [h]; rfl
  rw [BitField.get_bit, Bool.and_eq_true, decide_eq_true_eq] at hbit
  obtain ⟨hw, hpos⟩ := hbit
  have hput : (m.mode.put mode.toNat).getLsbD (m.mode.pos + 1) = true := by
    simpa [-BitVec.getLsbD_eq_getElem, hw] using ⟨BitVec.lt_of_getLsbD hpos, hm⟩
  rw [BitField.get_bit, decide_eq_true hw, Bool.true_and] at hone
  simp only [SdcmrFields.word, BitVec.getLsbD_or, hput, Bool.true_or] at hone
  cases hone

/-- The clock-enable command that a precharge-all command follows is the bring-up's first. -/
theorem clk_eq {clk pall : List HostStep} {wc wp : Word} {pc pp : Option SeqPhase} (ht : powerupTicks p.clkHz ≠ 0)
    (hclk : clk <:+ bringupSteps p b sdcr sdtr mr refresh) (hpall : pall <:+ clk)
    (hc : clk.head? = some ⟨.write .sdcmr wc, pc, none⟩) (hc1 : p.regMap.fields.sdcmr.mode.get wc = 1)
    (hp : pall.head? = some ⟨.write .sdcmr wp, pp, none⟩) (hp2 : p.regMap.fields.sdcmr.mode.get wp = 2) :
    clk = stepsFromClk p b mr refresh := by
  rcases suffix_bringupSteps ht hclk hc with ⟨-, h⟩ | rfl | rfl | ⟨rfl, rfl⟩
  · exact h
  · exact absurd hc1 (get_word_ne_one hp2 rfl _ _ _ _)
  · exact absurd hc1 (get_word_ne_one hp2 rfl _ _ _ _)
  · obtain ⟨rfl, -⟩ := suffix_stepsFromLmr hpall hp
    rw [hc1] at hp2
    cases hp2

end

/-! ### The wait between the two commands -/

/-- A host step keeps the mask and the counter if its act does. -/
theorem continueOp_keepsMaskCount {s : State} {h : HostStep} {rest : List HostStep} (ht : s.ctx.todo = h :: rest)
    (hd : ∀ v t, (doAct h.act v).state? = some t → t.imask = v.imask ∧ t.cyccnt = v.cyccnt) :
    s.continueOp.imask = s.imask ∧ s.continueOp.cyccnt = s.cyccnt := by
  have hd := hd { s with ctx := { s.ctx with todo := rest } }
  have settled (t : State) : t.settle.imask = t.imask ∧ t.settle.cyccnt = t.cyccnt := by
    unfold State.settle
    split <;> exact ⟨rfl, rfl⟩
  rw [continueOp_of_todo ht, performStep]
  generalize doAct h.act { s with ctx := { s.ctx with todo := rest } } = r at hd
  cases r with
  | done t =>
    obtain ⟨hm, hc⟩ := settled (t.enterPhase h.phase)
    obtain ⟨hm', hc'⟩ := hd t rfl
    cases hp : h.phase <;> rw [hp] at hm hc <;> exact ⟨hm.trans hm', hc.trans hc'⟩
  | stay t =>
    obtain ⟨hm, hc⟩ := settled { t with ctx := { t.ctx with todo := h :: t.ctx.todo } }
    obtain ⟨hm', hc'⟩ := hd t rfl
    exact ⟨hm.trans hm', hc.trans hc'⟩
  | stop r => cases r <;> exact ⟨rfl, rfl⟩

theorem continueOp_of_stop {s : State} {h : HostStep} {rest : List HostStep} {r : Stop} (ht : s.ctx.todo = h :: rest)
    (e : doAct h.act { s with ctx := { s.ctx with todo := rest } } = .stop r) : s.continueOp = s.mark r := by
  rw [continueOp_of_todo ht, performStep, e]

/-- A host step is made, or the host stays before it. -/
theorem continueOp_todo_cases {s : State} {h : HostStep} {rest : List HostStep} (ht : s.ctx.todo = h :: rest)
    (hb : h.act ≠ .clockBranch) : s.continueOp.ctx.todo = s.ctx.todo ∨ s.continueOp.ctx.todo = rest := by
  rw [continueOp_of_todo ht, performStep]
  cases e : doAct h.act { s with ctx := { s.ctx with todo := rest } } with
  | done t =>
    refine .inr ?_
    rw [settle_todo, enterPhase_ctx]
    exact (doAct_done_todo e).resolve_right fun h => hb h.1
  | stay t => exact .inl ((settle_todo _).trans (by rw [ht, ← show t.ctx.todo = rest from doAct_stay_todo e]))
  | stop r => exact .inl (by rw [mark_ctx])

section
variable {v t : State} {n : DWord} {w : Word}

theorem delayPoll_keepsMaskCount (e : (doAct .delayPoll v).state? = some t) : t.imask = v.imask ∧ t.cyccnt = v.cyccnt := by
  have m := doAct_move .delayPoll v
  generalize doAct .delayPoll v = r at e m
  cases m with
  | write _ hp _ => exact absurd rfl hp
  | mask _ _ hp => exact absurd rfl hp
  | stop r => cases e
  | _ => cases e; exact ⟨rfl, rfl⟩

theorem delayStart_keepsMaskCount (e : (doAct (.delayStart n) v).state? = some t) :
    t.imask = v.imask ∧ t.cyccnt = v.cyccnt := by
  simp only [doAct, delayStart] at e
  split at e
  · cases e
  · split at e <;> cases e <;> exact ⟨rfl, rfl⟩

theorem writeSdcmr_keepsMaskCount (e : (doAct (.write .sdcmr w) v).state? = some t) :
    t.imask = v.imask ∧ t.cyccnt = v.cyccnt := by
  cases hw : v.fmcWritable with
  | false => rw [doAct_write (regWrite_of_not_fmcWritable rfl hw)] at e; cases e; exact ⟨rfl, rfl⟩
  | true =>
    cases hb : v.busy with
    | false => rw [doAct_write (regWrite_sdcmr_of_ready hw hb)] at e; cases e; exact ⟨rfl, rfl⟩
    | true => simp only [doAct, writeAct, regWrite_sdcmr_of_busy hw hb] at e; cases e

end

/-- Where the host can be, at the count `n`, from the clock-enable command `w` to the end of the delay of `d` ticks, with at
least `m` TICK steps still to come before the steps `l`. -/
inductive PowerUpAt (w : Word) (d : DWord) (l : List HostStep) (m : Nat) (c : Ctx) (n : Word) : Prop where
  | command : c.todo = ⟨.write .sdcmr w, none, none⟩ :: ⟨.delayStart d, none, none⟩ :: ⟨.delayPoll, none, none⟩ :: l →
      m ≤ d.toNat → PowerUpAt w d l m c n
  | start : c.todo = ⟨.delayStart d, none, none⟩ :: ⟨.delayPoll, none, none⟩ :: l → m ≤ d.toNat → PowerUpAt w d l m c n
  | polls {r : WaitRegs} {k : Nat} : c.todo = ⟨.delayPoll, none, none⟩ :: l → c.wait = some r → TicksDue k n r → m ≤ k →
      PowerUpAt w d l m c n

/-- The host is on its way through the power-up wait, with interrupts masked. -/
structure State.PowersUp (w : Word) (d : DWord) (l : List HostStep) (m : Nat) (s : State) : Prop where
  irq : s.irq = none
  imask : s.imask = true
  position : PowerUpAt w d l m s.ctx s.cyccnt

section
variable {w : Word} {d : DWord} {l : List HostStep} {m : Nat} {s t : State}

theorem PowerUpAt.todo_ne_nil {c : Ctx} {n : Word} (h : PowerUpAt w d l m c n) : c.todo ≠ [] := by
  cases h with
  | command ht _ | start ht _ | polls ht _ _ _ => rw [ht]; exact List.cons_ne_nil _ _

theorem PowerUpAt.tick {c : Ctx} {n : Word} (h : PowerUpAt w d l m c n) : PowerUpAt w d l (m - 1) c (n + 1) := by
  cases h with
  | command ht hm => exact .command ht ((Nat.sub_le ..).trans hm)
  | start ht hm => exact .start ht ((Nat.sub_le ..).trans hm)
  | polls ht hr hd hm => exact .polls ht hr hd.tick (Nat.sub_le_sub_right hm 1)

theorem State.PowersUp.continueOp_command (h : s.PowersUp w d l m) (hm : m ≤ d.toNat)
    (ht : s.ctx.todo = ⟨.write .sdcmr w, none, none⟩ :: ⟨.delayStart d, none, none⟩ :: ⟨.delayPoll, none, none⟩ :: l) :
    s.continueOp.PowersUp w d l m := by
  obtain ⟨hmask, -⟩ := continueOp_keepsMaskCount ht fun _ _ => writeSdcmr_keepsMaskCount
  refine ⟨(continueOp_irq s).trans h.irq, hmask.trans h.imask, ?_⟩
  rcases continueOp_todo_cases ht Act.noConfusion with e | e
  · exact .command (e.trans ht) hm
  · exact .start e hm

/-- The delay begins with all its ticks due, or is refused. -/
theorem State.PowersUp.continueOp_start (h : s.PowersUp w d l m) (hd : d ≠ 0) (hm : m ≤ d.toNat)
    (ht : s.ctx.todo = ⟨.delayStart d, none, none⟩ :: ⟨.delayPoll, none, none⟩ :: l) : s.continueOp.PowersUp w d l m := by
  obtain ⟨hmask, hcount⟩ := continueOp_keepsMaskCount ht fun _ _ => delayStart_keepsMaskCount
  refine ⟨(continueOp_irq s).trans h.irq, hmask.trans h.imask, ?_⟩
  cases hc : s.counterEnabled with
  | true =>
    have e := continueOp_of_done ht (doAct_delayStart_of_enabled hd hc)
    refine .polls (r := ⟨s.cyccnt, d, subWait d⟩) (by rw [e]; rfl) (by rw [e]; rfl) ?_ hm
    rw [hcount]
    exact ticksDue_begun s.cyccnt d
  | false =>
    have e := continueOp_of_stop ht (doAct_delayStart_of_disabled hd hc)
    exact .start (by rw [e, mark_ctx, ht]) hm

/-- A host step on the way through the wait leaves as many TICK steps to come. -/
theorem State.PowersUp.continueOp (h : s.PowersUp w d l m) (hd : d ≠ 0) : m = 0 ∨ s.continueOp.PowersUp w d l m := by
  cases h.position with
  | command ht hm => exact .inr (h.continueOp_command hm ht)
  | start ht hm => exact .inr (h.continueOp_start hd hm ht)
  | polls ht hr hdue hm =>
    obtain ⟨hmask, hcount⟩ := continueOp_keepsMaskCount ht fun _ _ => delayPoll_keepsMaskCount
    rcases continueOp_delayPoll_due rfl ht hr hdue with rfl | ⟨ht', r, hr', hdue'⟩
    · exact .inl (Nat.le_zero.1 hm)
    · exact .inr ⟨(continueOp_irq s).trans h.irq, hmask.trans h.imask, .polls ht' hr' (by rwa [hcount]) hm⟩

theorem fmcStep_imask (s : State) : s.fmcStep.imask = s.imask := by
  unfold State.fmcStep
  split
  · split <;> rfl
  · rfl

theorem ltdcReloadStep_imask (s : State) : s.ltdcReloadStep.imask = s.imask := by
  unfold State.ltdcReloadStep
  split <;> rfl

theorem ltdcVBlankStep_imask (s : State) : s.ltdcVBlankStep.imask = s.imask := by
  unfold State.ltdcVBlankStep
  split
  · split <;> rfl
  · rfl

theorem State.PowersUp.same (h : s.PowersUp w d l m) (hp : SamePosition s t) (hm : t.imask = s.imask) :
    t.PowersUp w d l m :=
  ⟨hp.irq.trans h.irq, hm.trans h.imask, by rw [hp.ctx, hp.cyccnt]; exact h.position⟩

/-- A step of any agent takes at most the one TICK step off those still to come that it is. -/
theorem State.PowersUp.step (h : s.PowersUp w d l m) (hd : d ≠ 0) (e : Machine.step s = .next t) :
    m = 0 ∨ t.PowersUp w d l (m - if s.ticksNext then 1 else 0) := by
  obtain ⟨ms, n, move⟩ := step_unpreempted h.irq (.inl h.imask) h.position.todo_ne_nil e
  replace h : State.PowersUp w d l m { s with sched := ms, draws := n } := ⟨h.irq, h.imask, h.position⟩
  generalize s.ticksNext = b, ({ s with sched := ms, draws := n } : State) = v at move h
  cases move with
  | tick => exact .inr ⟨h.irq, h.imask, h.position.tick⟩
  | goOn => exact h.continueOp hd
  | idle => exact .inr h
  | refuse r => exact .inr (h.same ⟨rfl, rfl, rfl, rfl⟩ rfl)
  | fmc => exact .inr (h.same (fmcStep_position v) (fmcStep_imask v))
  | reload => exact .inr (h.same (ltdcReloadStep_position v) (ltdcReloadStep_imask v))
  | vblank => exact .inr (h.same (ltdcVBlankStep_position v) (ltdcVBlankStep_imask v))

/-- Over a run the host is still on its way, or the TICK steps that were to come have happened. -/
theorem State.PowersUp.runFor {k : Nat} {u : State} (h : s.PowersUp w d l m) (hd : d ≠ 0) (e : runFor k s = .next u) :
    (∃ m', u.PowersUp w d l m') ∨ m ≤ ticksIn k s := by
  induction k generalizing s m with
  | zero => cases e; exact .inl ⟨m, h⟩
  | succ k ih =>
    obtain ⟨t, ht, e⟩ := runFor_succ_next e
    rw [ticksIn_succ ht]
    rcases h.step hd ht with rfl | h
    · exact .inr (Nat.zero_le _)
    · exact (ih h e).imp id fun hle => by omega

end

theorem powerupTicks_toNat (clk : Word) : (powerupTicks clk).toNat = 500 * clk.toNat / 10 ^ 6 := by
  have := clk.isLt
  simp only [powerupTicks, unitTicks, Config.sdramPowerupUs, BitVec.toNat_ofNat, Nat.reduceMod, Nat.reducePow]
  omega

/-- Settles O40: the wait that follows the clock-enable command (`clk_eq`) cannot be passed before its ticks have happened
(`State.PowersUp.runFor`), and at no place on the way is the precharge-all command next. -/
theorem powerUpLaw : Obligations.PowerUpLaw := by
  intro s u k b sdcr sdtr mr refresh wc wp pc pp clk pall hclk hpall hc hc1 hp hp2 hm hi ht e hu
  rw [← powerupTicks_toNat]
  by_cases hd : powerupTicks s.params.clkHz = 0
  · rw [hd]
    exact Nat.zero_le _
  obtain rfl := clk_eq hd hclk hpall hc hc1 hp hp2
  refine (State.PowersUp.runFor ⟨hi, hm, .command ht le_rfl⟩ hd e).resolve_left ?_
  rintro ⟨m, h⟩
  rw [← hu] at hp
  cases h.position with
  | command hl _ =>
    rw [hl] at hp
    cases hp
    cases hc
    rw [hc1] at hp2
    cases hp2
  | start hl _ | polls hl _ _ _ => rw [hl] at hp; cases hp

end Sys2Proof.Machine
end

section
/-! PROOFS, family 44_sdram_sequencer: a bring-up reaches LIVE (R222 to R241). In rounds of a host step, a step of the FMC and a
tick the state is followed up to what the rounds themselves leave behind (`State.quiet`): from the host steps `l` in the quiet
state `q` the rounds reach `l'` in `q'` (`Goes`), by one rule for each kind of host step. -/

namespace Sys2Proof.Machine

/-! ### Rounds, up to reads, counts and the position -/

/-- The state without its position, recorded reads, the counter and the counts in the command log. -/
def State.quiet (s : State) : State :=
  { s with
    lastRead := none
    draws := 0
    cyccnt := 0
    ctx := Ctx.idle
    sdramLog := s.sdramLog.map fun e => { e with at_ := 0 } }

/-- The host steps `l` are still to be made, and the rest of the state is `q`. -/
structure State.StandsAt (s : State) (l : List HostStep) (q : State) : Prop where
  todo : s.ctx.todo = l
  idle : l = [] → s.ctx = Ctx.idle
  quiet : s.quiet = q

/-- Some number of rounds leads from the host steps `l` in `q` to `l'` in `q'`. -/
def Goes (l : List HostStep) (q : State) (l' : List HostStep) (q' : State) : Prop :=
  ∀ s : State, s.StandsAt l q → ∃ n, (iterState State.sdramRound n s).StandsAt l' q'

theorem iterState_add (f : State → State) (m n : Nat) (s : State) :
    iterState f (m + n) s = iterState f n (iterState f m s) := by
  induction m generalizing s with
  | zero => rw [Nat.zero_add]; rfl
  | succ m ih => rw [Nat.succ_add]; exact ih (f s)

section
variable {l l₁ l₂ : List HostStep} {q q₁ q₂ : State}

theorem Goes.refl (l : List HostStep) (q : State) : Goes l q l q := fun _ h => ⟨0, h⟩

theorem Goes.trans (h₁ : Goes l q l₁ q₁) (h₂ : Goes l₁ q₁ l₂ q₂) : Goes l q l₂ q₂ := by
  intro s hs
  obtain ⟨m, hm⟩ := h₁ s hs
  obtain ⟨n, hn⟩ := h₂ _ hm
  exact ⟨m + n, by rwa [iterState_add]⟩

end

section
variable (s : State)

theorem quiet_settle : s.settle.quiet = s.quiet := by
  unfold State.settle
  split <;> rfl

theorem quiet_enterPhase (p : Option SeqPhase) : (s.enterPhase p).quiet = s.quiet.enterPhase p := by
  cases p <;> rfl

theorem quiet_tickStep : s.tickStep.quiet = s.quiet := by
  unfold State.tickStep
  split <;> rfl

theorem tickStep_ctx : s.tickStep.ctx = s.ctx := by
  unfold State.tickStep
  split <;> rfl

/-- The FMC logs the same command, at another count. -/
theorem quiet_fmcStep : s.fmcStep.quiet = s.quiet.fmcStep := by
  have he : s.quiet.fmcEnabled = s.fmcEnabled := rfl
  unfold State.fmcStep
  rw [he]
  split
  · have hp : s.quiet.fmcPending = s.fmcPending := rfl
    rw [hp]
    cases s.fmcPending with
    | none => rfl
    | some w => simp [State.quiet, sdramEntry]
  · rfl

theorem settle_idle (h : s.settle.ctx.todo = []) : s.settle.ctx = Ctx.idle := by
  rw [settle_todo] at h
  simp only [State.settle, h]

theorem sdramRound_ctx : s.sdramRound.ctx = s.continueOp.ctx := by
  rw [State.sdramRound, tickStep_ctx, (fmcStep_position _).ctx]

theorem quiet_sdramRound : s.sdramRound.quiet = s.continueOp.quiet.fmcStep := by
  rw [State.sdramRound, quiet_tickStep, quiet_fmcStep]

end

section
variable {h : HostStep} {rest l : List HostStep} {q q' : State}

/-- A round whose host step is made. -/
theorem standsAt_round {s t : State} (ht : s.ctx.todo = h :: rest)
    (e : doAct h.act { s with ctx := { s.ctx with todo := rest } } = .done t) :
    s.sdramRound.StandsAt t.ctx.todo (t.quiet.enterPhase h.phase).fmcStep where
  todo := by rw [sdramRound_ctx, continueOp_of_done ht e, settle_todo, enterPhase_ctx]
  idle hl := by
    rw [sdramRound_ctx, continueOp_of_done ht e]
    exact settle_idle _ (by rw [settle_todo, enterPhase_ctx, hl])
  quiet := by rw [quiet_sdramRound, continueOp_of_done ht e, quiet_settle, quiet_enterPhase]

/-- The rule for a host step that is made whatever has been read before it. -/
theorem goes_of_done (hd : ∀ s : State, s.ctx.todo = rest → s.quiet = q →
    ∃ t, doAct h.act s = .done t ∧ t.ctx.todo = l ∧ t.quiet = q') :
    Goes (h :: rest) q l (q'.enterPhase h.phase).fmcStep := by
  intro s hs
  obtain ⟨t, e, rfl, rfl⟩ := hd { s with ctx := { s.ctx with todo := rest } } rfl hs.quiet
  exact ⟨1, standsAt_round hs.todo e⟩

end

/-! ### One rule for each kind of host step -/

/-- A register other than CYCCNT is written as in the quiet state. -/
theorem regWrite_quiet (s : State) {r : Reg} (hr : r ≠ .dwtCyccnt) (w : Word) :
    s.quiet.regWrite r w = (s.regWrite r w).map State.quiet := by
  cases r with
  | dwtCyccnt => exact absurd rfl hr
  | sdcmr =>
    cases hw : s.fmcWritable with
    | false =>
      rw [regWrite_of_not_fmcWritable (r := .sdcmr) rfl hw, regWrite_of_not_fmcWritable (s := s.quiet) (r := .sdcmr) rfl hw]
      rfl
    | true =>
      cases hb : s.busy with
      | false =>
        rw [regWrite_sdcmr_of_ready hw hb, regWrite_sdcmr_of_ready (s := s.quiet) hw hb]
        rfl
      | true =>
        rw [regWrite_sdcmr_of_busy hw hb, regWrite_sdcmr_of_busy (s := s.quiet) hw hb]
        rfl
  | ahb3rstr =>
    simp only [State.regWrite, Except.map, show s.quiet.params = s.params from rfl]
    split <;> rfl
  | sdcr1 | sdcr2 | sdtr1 | sdtr2 | sdrtr =>
    simp only [State.regWrite, Except.map, show s.quiet.fmcWritable = s.fmcWritable from rfl]
    split <;> rfl
  | _ => rfl

theorem regWrite_of_quiet {s q : State} {r : Reg} {w : Word} (hr : r ≠ .dwtCyccnt) (hw : s.quiet.regWrite r w = .ok q) :
    ∃ t, s.regWrite r w = .ok t ∧ t.ctx = s.ctx ∧ t.quiet = q := by
  rw [regWrite_quiet s hr] at hw
  cases e : s.regWrite r w with
  | error f => rw [e] at hw; cases hw
  | ok t =>
    rw [e] at hw
    cases hw
    obtain ⟨-, hc, -⟩ := regWrite_keeps e
    exact ⟨t, rfl, hc, rfl⟩

theorem regKnown_quiet (s : State) {r : Reg} (hr : r ≠ .dwtCyccnt) : s.quiet.regKnown r = s.regKnown r := by
  cases r with
  | dwtCyccnt => exact absurd rfl hr
  | _ => rfl

section
variable {l : List HostStep} {q q' : State} {r : Reg} {w : Word} {p : Option SeqPhase}

theorem fmcStep_of_none (hn : q.fmcPending = none) : q.fmcStep = q := by
  simp [State.fmcStep, State.fmcEnabled, hn]

/-- The rule for a host step that is made and leaves no command pending. -/
theorem goes_of_done_quiet {a : Act} {rest : List HostStep} (hn : q'.fmcPending = none)
    (hd : ∀ s : State, s.ctx.todo = rest → s.quiet = q → ∃ t, doAct a s = .done t ∧ t.ctx.todo = l ∧ t.quiet = q') :
    Goes (⟨a, p, none⟩ :: rest) q l (q'.enterPhase p) := by
  have h := goes_of_done (h := ⟨a, p, none⟩) hd
  rwa [fmcStep_of_none (by cases p <;> exact hn)] at h

theorem goes_pollReady (hn : q.fmcPending = none) (hb : q.busyRead = false) :
    Goes (⟨.pollReady, p, none⟩ :: l) q l (q.enterPhase p) :=
  goes_of_done_quiet hn fun s ht hq => by
    subst hq
    exact ⟨_, doAct_pollReady_of_ready hb, ht, rfl⟩

theorem goes_pollClock (hn : q.fmcPending = none) (he : q.fmcen = true) :
    Goes (⟨.pollClock, p, none⟩ :: l) q l (q.enterPhase p) :=
  goes_of_done_quiet hn fun s ht hq => by
    subst hq
    exact ⟨s.regRead .ahb3enr, if_pos he, ht, rfl⟩

theorem doAct_write_quiet (hr : r ≠ .dwtCyccnt) (hw : q.regWrite r w = .ok q') (s : State) (ht : s.ctx.todo = l)
    (hq : s.quiet = q) : ∃ t, doAct (.write r w) s = .done t ∧ t.ctx.todo = l ∧ t.quiet = q' := by
  subst hq
  obtain ⟨t, e, hc, rfl⟩ := regWrite_of_quiet hr hw
  exact ⟨t, doAct_write e, by rw [hc, ht], rfl⟩

theorem goes_write (hr : r ≠ .dwtCyccnt) (hw : q.regWrite r w = .ok q') (hn : q'.fmcPending = none) :
    Goes (⟨.write r w, p, none⟩ :: l) q l (q'.enterPhase p) :=
  goes_of_done_quiet hn (doAct_write_quiet hr hw)

theorem doAct_writeMod {s t : State} {mask val : Word}
    (h : s.regWrite r ((s.ctx.latch &&& ~~~mask) ||| (val &&& mask)) = .ok t) : doAct (.writeMod r mask val) s = .done t := by
  simp only [doAct, writeAct, h]

/-- The two rounds of a RegModify (R84). -/
theorem goes_modify {mask val : Word} (hr : r ≠ .dwtCyccnt)
    (hw : q.regWrite r ((q.regKnown r &&& ~~~mask) ||| (val &&& mask)) = .ok q') (hn : q.fmcPending = none)
    (hn' : q'.fmcPending = none) :
    Goes (⟨.read r, none, none⟩ :: ⟨.writeMod r mask val, p, none⟩ :: l) q l (q'.enterPhase p) := by
  intro s hs
  obtain rfl := hs.quiet
  have hread : s.sdramRound.StandsAt (⟨.writeMod r mask val, p, none⟩ :: l) s.quiet.fmcStep := standsAt_round hs.todo rfl
  have hlatch : s.sdramRound.ctx.latch = s.quiet.regKnown r := by
    rw [sdramRound_ctx, continueOp_of_done hs.todo rfl, regKnown_quiet s hr]
    rfl
  rw [fmcStep_of_none hn] at hread
  rw [← hlatch, ← hread.quiet] at hw
  obtain ⟨t, e, hc, rfl⟩ := regWrite_of_quiet (s := { s.sdramRound with ctx := { s.sdramRound.ctx with todo := l } }) hr hw
  have hwrite := standsAt_round hread.todo (doAct_writeMod e)
  rw [hc, fmcStep_of_none (by cases p <;> exact hn')] at hwrite
  exact ⟨2, hwrite⟩

theorem goes_leave {m : Bool} {st : List Bool} (hn : q.fmcPending = none) (hs : q.csStack = m :: st) :
    Goes (⟨.leave, p, none⟩ :: l) q l ({ q with imask := m, csStack := st }.enterPhase p) :=
  goes_of_done_quiet (by exact hn) fun s ht hq => by
    subst hq
    replace hs : s.csStack = m :: st := hs
    exact ⟨{ s with imask := m, csStack := st }, by simp only [doAct, State.csExit?, hs], ht, rfl⟩

theorem goes_clockBranch_clocked (hn : q.fmcPending = none) (he : q.fmcen = true) :
    Goes (⟨.clockBranch, p, none⟩ :: l) q l ({ q with seqPhase := .geometry }.enterPhase p) :=
  goes_of_done_quiet (by exact hn) fun s ht hq => by
    subst hq
    exact ⟨{ s.regRead .ahb3enr with seqPhase := .geometry }, if_pos he, ht, rfl⟩

theorem goes_clockBranch_unclocked (hn : q.fmcPending = none) (he : q.fmcen = false) :
    Goes (⟨.clockBranch, p, none⟩ :: l) q (clockSteps q.fields ++ l) (q.enterPhase p) :=
  goes_of_done_quiet hn fun s ht hq => by
    subst hq
    exact ⟨_, if_neg (Bool.eq_false_iff.1 he), by rw [← ht]; rfl, rfl⟩

end

/-! ### A delay (R161) -/

theorem sdramRound_cyccnt (s : State) (h : s.continueOp.quiet.fmcStep.counterEnabled = true) :
    s.sdramRound.cyccnt = s.continueOp.cyccnt + 1 := by
  rw [← quiet_fmcStep] at h
  have hc : s.continueOp.fmcStep.counterEnabled = true := h
  rw [State.sdramRound, tickStep_of_enabled hc, (fmcStep_position _).cyccnt]

section
variable {l : List HostStep} {q s : State} {t : DWord}

/-- A delay of one sub-wait ends when the rounds still to come, one tick each, are made. -/
theorem delayPoll_ends {n : Word} {e k : Nat} (hc : q.counterEnabled = true) (hf : q.fmcStep = q) (ht : t.toNat < 2 ^ 31)
    (hk : e + k = t.toNat) (htodo : s.ctx.todo = ⟨.delayPoll, none, none⟩ :: l)
    (hwait : s.ctx.wait = some ⟨n, t, subWait t⟩) (hcount : s.cyccnt = n + BitVec.ofNat 32 e) (hq : s.quiet = q) :
    ∃ j, (iterState State.sdramRound j s).StandsAt l q := by
  have hsub := subWait_toNat_of_lt ht
  have helapsed : (s.cyccnt - n).toNat = e := by
    rw [hcount, BitVec.add_comm, BitVec.add_sub_cancel, BitVec.toNat_ofNat, Nat.mod_eq_of_lt (by omega)]
  induction k generalizing s e with
  | zero =>
    have hlast : t - (subWait t).setWidth 64 = 0 := by bv_omega
    have hpoll : doAct .delayPoll { s with ctx := { s.ctx with todo := l } } =
        .done ({ s with ctx := { s.ctx with todo := l } }.sample.setWait none) := by
      simp only [doAct, delayPoll, hwait, helapsed, hsub, hlast, if_true, show ¬ e < t.toNat by omega, if_false]
    have h : s.sdramRound.StandsAt l s.quiet.fmcStep := standsAt_round htodo hpoll
    rw [hq, hf] at h
    exact ⟨1, h⟩
  | succ k ih =>
    have hop := continueOp_delayPoll_holds rfl htodo hwait (by rw [helapsed, hsub]; omega)
    have hctx : s.sdramRound.ctx = { s.ctx with setupStep := none } := by rw [sdramRound_ctx, hop]
    have hquiet : s.continueOp.quiet = q := by rw [hop, ← hq]; rfl
    have hnext : s.sdramRound.cyccnt = n + BitVec.ofNat 32 (e + 1) := by
      rw [sdramRound_cyccnt s (by rw [hquiet, hf, hc]), hop, BitVec.ofNat_add, ← BitVec.add_assoc, ← hcount]
      rfl
    obtain ⟨j, hj⟩ := ih (s := s.sdramRound) (e := e + 1) (by omega) (by rw [hctx, htodo]) (by rw [hctx, hwait]) hnext
      (by rw [quiet_sdramRound, hquiet, hf])
      (by rw [hnext, BitVec.add_comm, BitVec.add_sub_cancel, BitVec.toNat_ofNat, Nat.mod_eq_of_lt (by omega)])
    exact ⟨j + 1, hj⟩

/-- A delay of at most DELAY_CHUNK ticks is passed with nothing changed. -/
theorem goes_delay (hc : q.counterEnabled = true) (hn : q.fmcPending = none) (ht : t.toNat < 2 ^ 31) :
    Goes (plainSteps (delayActs t) ++ l) q l q := by
  have hf := fmcStep_of_none hn
  by_cases h0 : t = 0
  · subst h0
    have h : Goes (⟨.delayStart 0, none, none⟩ :: l) q l q.fmcStep :=
      goes_of_done fun s hs hq => ⟨s.sample, rfl, hs, hq⟩
    rwa [hf] at h
  · rw [delayActs, if_neg h0]
    intro s hs
    have hsc : s.counterEnabled = true := by rw [← hc, ← hs.quiet]; rfl
    have hop := continueOp_of_done hs.todo
      (doAct_delayStart_of_enabled (s := { s with ctx := { s.ctx with todo := plainSteps [.delayPoll] ++ l } }) h0 hsc)
    have hctx : s.sdramRound.ctx = { s.ctx with
        todo := ⟨.delayPoll, none, none⟩ :: l, wait := some ⟨s.cyccnt, t, subWait t⟩, setupStep := none } := by
      rw [sdramRound_ctx, hop]
      rfl
    have hquiet : s.continueOp.quiet = q := by rw [hop, ← hs.quiet]; rfl
    obtain ⟨j, hj⟩ := delayPoll_ends (s := s.sdramRound) (n := s.cyccnt) (e := 1) (k := t.toNat - 1) hc hf ht
      (by have : t.toNat ≠ 0 := fun h => h0 (BitVec.eq_of_toNat_eq h); omega) (by rw [hctx]) (by rw [hctx])
      (by rw [sdramRound_cyccnt s (by rw [hquiet, hf, hc]), hop]; rfl) (by rw [quiet_sdramRound, hquiet, hf])
    exact ⟨j + 1, hj⟩

end

end Sys2Proof.Machine
end

section
/-! PROOFS, family 44_sdram_sequencer: the phases of a bring-up, one rule for each (R224 to R241), and where they lead. -/

namespace Sys2Proof.Machine

/-! ### Words within the fields of a register -/

theorem within_iff {m w : Word} : within m w = true ↔ w &&& m = w := by
  constructor
  · intro h
    have hsplit : w &&& m ||| w &&& ~~~m = w := by
      refine BitVec.eq_of_getLsbD_eq fun i hi => ?_
      simp only [BitVec.getLsbD_or, BitVec.getLsbD_and, BitVec.getLsbD_not, hi, decide_true, Bool.true_and,
        ← Bool.and_or_distrib_left, Bool.or_not_self, Bool.and_true]
    rw [within, beq_iff_eq] at h
    simpa [h] using hsplit
  · intro h
    rw [← h]
    exact within_and m w

theorem within_put {f : BitField} {fs : List BitField} (v : Nat) (h : f ∈ fs) : within (fieldsMask fs) (f.put v) = true :=
  within_iff.2 (f.put_and_fieldsMask fs v h)

theorem within_sdcrWord {m : FieldMap} {fv : SdramFieldValues} {g : Geometry} {w : Word} (h : sdcrWord m fv g = some w) :
    within (fieldsMask m.sdcr.all) w = true := by
  simp only [sdcrWord, Option.bind_eq_bind, Option.bind_eq_some_iff, Option.pure_def, Option.some.injEq] at h
  obtain ⟨nc, -, nr, -, mwid, -, nb, -, cas, -, div, -, pipe, -, rfl⟩ := h
  have put (f : BitField) (v : Nat) (hf : f ∈ m.sdcr.all) := within_put v hf
  simp only [BitField.putBit]
  iterate 8 refine within_or ?_ (put _ _ (by simp [SdcrFields.all]))
  exact put _ _ (by simp [SdcrFields.all])

theorem within_sdtrWord (m : FieldMap) (c : TimingSpecCycles) : within (fieldsMask m.sdtr.all) (sdtrWord m c) = true := by
  have put (f : BitField) (v : Nat) (hf : f ∈ m.sdtr.all) := within_put v hf
  rw [sdtrWord]
  iterate 6 refine within_or ?_ (put _ _ (by simp [SdtrFields.all]))
  exact put _ _ (by simp [SdtrFields.all])

/-! ### Writes of the FMC registers (R41, R42, R44) -/

section
variable {q : State} {w : Word}

theorem regWrite_sdcr1 (hq : q.fmcWritable = true) (hw : within (q.params.writeMask .sdcr1) w = true) :
    q.regWrite .sdcr1 w = .ok { q with sdcr1 := w } := by
  simp [State.regWrite, hq, within_iff.1 hw]

theorem regWrite_sdcr2 (hq : q.fmcWritable = true) (hw : within (q.params.writeMask .sdcr2) w = true) :
    q.regWrite .sdcr2 w = .ok { q with sdcr2 := w } := by
  simp [State.regWrite, hq, within_iff.1 hw]

theorem regWrite_sdtr1 (hq : q.fmcWritable = true) (hw : within (q.params.writeMask .sdtr1) w = true) :
    q.regWrite .sdtr1 w = .ok { q with sdtr1 := w } := by
  simp [State.regWrite, hq, within_iff.1 hw]

theorem regWrite_sdtr2 (hq : q.fmcWritable = true) (hw : within (q.params.writeMask .sdtr2) w = true) :
    q.regWrite .sdtr2 w = .ok { q with sdtr2 := w } := by
  simp [State.regWrite, hq, within_iff.1 hw]

theorem regWrite_sdrtr (hq : q.fmcWritable = true) (hw : within (q.params.writeMask .sdrtr) w = true) :
    q.regWrite .sdrtr w = .ok { q with sdrtr := w } := by
  simp [State.regWrite, hq, within_iff.1 hw]

end

/-! ### The phases with the FMC clocked -/

/-- The FMC is clocked, out of reset, idle and answers, and the counter runs. -/
structure Ready (p : Params) (q : State) : Prop where
  params : q.params = p
  responds : p.fmcResponds = true
  clocked : q.fmcen = true
  released : q.fmcrst = false
  idle : q.busy = false
  unpending : q.fmcPending = none
  counts : q.counterEnabled = true

section
variable {p : Params} {q : State} {l : List HostStep} {b : Bank}

theorem Ready.fmcWritable (h : Ready p q) : q.fmcWritable = true := fmcWritable_eq_true_iff.2 ⟨h.clocked, h.released⟩

theorem Ready.busyRead (h : Ready p q) : q.busyRead = false := by simp [State.busyRead, h.idle]

theorem Ready.regKnown {r : Reg} (h : Ready p q) : q.regKnown r = q.regHeld r := by
  simp [State.regKnown, h.clocked, h.released]

theorem phaseSteps_cons (ph : SeqPhase) (a : Act) {acts : List Act} (h : acts ≠ []) :
    phaseSteps ph (a :: acts) = ⟨a, none, none⟩ :: phaseSteps ph acts := by
  obtain ⟨c, rest, rfl⟩ := List.exists_cons_of_ne_nil h
  rfl

theorem phaseSteps_concat (ph : SeqPhase) (acts : List Act) (a : Act) :
    phaseSteps ph (acts ++ [a]) = plainSteps acts ++ [⟨a, some ph, none⟩] := by
  induction acts with
  | nil => rfl
  | cons c acts ih =>
    rw [List.cons_append, phaseSteps_cons ph c (by simp), ih]
    rfl

/-- The state after phase GEOMETRY. -/
def State.controlSet (q : State) (b : Bank) (full shared : Word) : State :=
  { q with
    sdcr1 := if b = .bankB then (q.sdcr1 &&& ~~~shared) ||| (full &&& shared) else full
    sdcr2 := if b = .bankA then q.sdcr2 else full &&& ~~~shared
    seqPhase := .timing }

/-- The state after phase TIMING. -/
def State.timingSet (q : State) (b : Bank) (full only : Word) : State :=
  { q with
    sdtr1 := if b = .bankB then (q.sdtr1 &&& ~~~only) ||| (full &&& only) else full
    sdtr2 := if b = .bankA then q.sdtr2 else full &&& ~~~only
    seqPhase := .cmdClk }

/-- The state after a command that the FMC has completed (R242, R246), in the phase entered next. -/
def State.commanded (q : State) (w : Word) (ph : SeqPhase) : State :=
  { q with sdcmr := w, sdramLog := q.sdramLog ++ [sdramEntry q.fields.sdcmr w q.cyccnt], seqPhase := ph }

/-- The state after phase REFRESH and the end of the critical section. -/
def State.wentLive (q : State) (w : Word) (m : Bool) (st : List Bool) : State :=
  { q with sdrtr := w, seqPhase := .live, imask := m, csStack := st }

theorem Ready.controlSet (h : Ready p q) (b : Bank) (full shared : Word) : Ready p (q.controlSet b full shared) := { h with }

theorem Ready.timingSet (h : Ready p q) (b : Bank) (full only : Word) : Ready p (q.timingSet b full only) := { h with }

theorem Ready.commanded (h : Ready p q) (w : Word) (ph : SeqPhase) : Ready p (q.commanded w ph) := { h with }

theorem Ready.wentLive (h : Ready p q) (w : Word) (m : Bool) (st : List Bool) : Ready p (q.wentLive w m st) := { h with }

/-- Phase GEOMETRY (R228, R230). -/
theorem goes_geometry {full shared : Word} (h : Ready p q) (hf : within (p.writeMask .sdcr1) full = true)
    (h1 : within (p.writeMask .sdcr1) q.sdcr1 = true) :
    Goes (phaseSteps .timing (geometryActs b full shared) ++ l) q l (q.controlSet b full shared) := by
  obtain rfl := h.params
  have hm : within (q.params.writeMask .sdcr1) ((q.sdcr1 &&& ~~~shared) ||| (full &&& shared)) = true :=
    within_or (within_and_of_within _ h1) (within_and_of_within _ hf)
  have second (w : Word) {m : List HostStep} :
      Goes (⟨.write .sdcr2 (full &&& ~~~shared), some .timing, none⟩ :: m) { q with sdcr1 := w } m
        { q with sdcr1 := w, sdcr2 := full &&& ~~~shared, seqPhase := .timing } :=
    goes_write (q := { q with sdcr1 := w }) Reg.noConfusion
      (regWrite_sdcr2 (q := { q with sdcr1 := w }) h.fmcWritable (within_and_of_within _ hf)) h.unpending
  cases b with
  | bankA => exact goes_write Reg.noConfusion (regWrite_sdcr1 h.fmcWritable hf) h.unpending
  | bothBanks => exact (goes_write Reg.noConfusion (regWrite_sdcr1 h.fmcWritable hf) h.unpending).trans (second full)
  | bankB =>
    exact (goes_modify (q' := { q with sdcr1 := (q.sdcr1 &&& ~~~shared) ||| (full &&& shared) }) Reg.noConfusion
      (by rw [h.regKnown]; exact regWrite_sdcr1 h.fmcWritable hm) h.unpending h.unpending).trans (second _)

/-- Phase TIMING (R231, R232). -/
theorem goes_timing {full only : Word} (h : Ready p q) (hf : within (p.writeMask .sdtr1) full = true)
    (h1 : within (p.writeMask .sdtr1) q.sdtr1 = true) :
    Goes (phaseSteps .cmdClk (timingActs b full only) ++ l) q l (q.timingSet b full only) := by
  obtain rfl := h.params
  have hm : within (q.params.writeMask .sdtr1) ((q.sdtr1 &&& ~~~only) ||| (full &&& only)) = true :=
    within_or (within_and_of_within _ h1) (within_and_of_within _ hf)
  have second (w : Word) {m : List HostStep} :
      Goes (⟨.write .sdtr2 (full &&& ~~~only), some .cmdClk, none⟩ :: m) { q with sdtr1 := w } m
        { q with sdtr1 := w, sdtr2 := full &&& ~~~only, seqPhase := .cmdClk } :=
    goes_write (q := { q with sdtr1 := w }) Reg.noConfusion
      (regWrite_sdtr2 (q := { q with sdtr1 := w }) h.fmcWritable (within_and_of_within _ hf)) h.unpending
  cases b with
  | bankA => exact goes_write Reg.noConfusion (regWrite_sdtr1 h.fmcWritable hf) h.unpending
  | bothBanks => exact (goes_write Reg.noConfusion (regWrite_sdtr1 h.fmcWritable hf) h.unpending).trans (second full)
  | bankB =>
    exact (goes_modify (q' := { q with sdtr1 := (q.sdtr1 &&& ~~~only) ||| (full &&& only) }) Reg.noConfusion
      (by rw [h.regKnown]; exact regWrite_sdtr1 h.fmcWritable hm) h.unpending h.unpending).trans (second _)

theorem goes_command {w : Word} (h : Ready p q) :
    Goes (⟨.write .sdcmr w, none, none⟩ :: l) q l (q.commanded w q.seqPhase) := by
  have hstep : ({ q with sdcmr := w, fmcPending := some w, busy := true } : State).fmcStep = q.commanded w q.seqPhase := by
    refine (fmcStep_of_pending (s := { q with sdcmr := w, fmcPending := some w, busy := true }) rfl h.fmcWritable
      (h.params ▸ h.responds)).trans ?_
    simp only [State.commanded, h.idle, h.unpending]
  rw [← hstep]
  exact goes_of_done (doAct_write_quiet Reg.noConfusion (regWrite_sdcmr_of_ready h.fmcWritable h.idle))

/-- A command phase (R235 to R239): the ready poll, the command, the acts `mid`, and the poll that enters the next phase. -/
theorem goes_commandPhase {mode : BitVec 3} {nrfs : BitVec 4} {mrd : BitVec 13} {mid : List Act} (ph : SeqPhase)
    (h : Ready p q) (hmid : ∀ q' l', Ready p q' → Goes (plainSteps mid ++ l') q' l' q') :
    Goes (phaseSteps ph (sendActs p.regMap.fields b mode nrfs mrd ++ mid ++ [.pollReady]) ++ l) q l
      (q.commanded (p.regMap.fields.sdcmr.word mode b.ctb1 b.ctb2 nrfs mrd) ph) := by
  have h' := h.commanded (p.regMap.fields.sdcmr.word mode b.ctb1 b.ctb2 nrfs mrd) q.seqPhase
  have hl : phaseSteps ph (sendActs p.regMap.fields b mode nrfs mrd ++ mid ++ [.pollReady]) ++ l =
      ⟨.pollReady, none, none⟩ :: ⟨.write .sdcmr (p.regMap.fields.sdcmr.word mode b.ctb1 b.ctb2 nrfs mrd), none, none⟩ ::
        (plainSteps mid ++ (⟨.pollReady, some ph, none⟩ :: l)) := by
    rw [phaseSteps_concat]
    simp [sendActs, plainSteps]
  rw [hl]
  exact (goes_pollReady h.unpending h.busyRead).trans ((goes_command h).trans ((hmid _ _ h').trans
    (goes_pollReady h'.unpending h'.busyRead)))

/-- A command phase with nothing between the command and the poll (R237 to R239). -/
theorem goes_plainCommandPhase {mode : BitVec 3} {nrfs : BitVec 4} {mrd : BitVec 13} (ph : SeqPhase) (h : Ready p q) :
    Goes (phaseSteps ph (sendActs p.regMap.fields b mode nrfs mrd ++ [.pollReady]) ++ l) q l
      (q.commanded (p.regMap.fields.sdcmr.word mode b.ctb1 b.ctb2 nrfs mrd) ph) := by
  rw [← List.append_nil (sendActs p.regMap.fields b mode nrfs mrd)]
  exact goes_commandPhase ph h fun q' l' _ => Goes.refl l' q'

/-- Phase REFRESH (R240) and the step that leaves the critical section (R222, R241). -/
theorem goes_refresh {w : Word} {m : Bool} {st : List Bool} (h : Ready p q) (hw : within (p.writeMask .sdrtr) w = true)
    (hs : q.csStack = m :: st) : Goes [⟨.write .sdrtr w, some .live, none⟩, ⟨.leave, none, none⟩] q []
      (q.wentLive w m st) := by
  obtain rfl := h.params
  exact (goes_write Reg.noConfusion (regWrite_sdrtr h.fmcWritable hw) h.unpending).trans
    (goes_leave (q := { q with sdrtr := w, seqPhase := .live }) h.unpending hs)

end

/-! ### Phase CLOCK_ENABLE (R224 to R227) -/

/-- The state after phase CLOCK_ENABLE: a clocked FMC is left as it is, another is enabled and reset. -/
def State.clockPhase (q : State) : State :=
  if q.fmcen then { q with seqPhase := .geometry }
  else { q.fmcReset with fmcen := true, fmcrst := false, seqPhase := .geometry }

section
variable {q : State} (hp : q.params.layoutOk = true)
include hp

theorem regWrite_setFmcen (w : Word) :
    q.regWrite .ahb3enr ((w &&& ~~~q.fields.fmcen.mask) ||| (q.fields.fmcen.put 1 &&& q.fields.fmcen.mask)) =
      .ok { q with fmcen := true } := by
  have hw : q.fields.fmcen.width = 1 := layoutOk_width hp (by simp [FieldMap.fixedWidths])
  have hle := fieldsFit_le (layoutOk_fits hp (r := .ahb3enr) (by decide)) List.mem_cons_self
  simp only [State.regWrite, BitField.isSet_modify_one w hw hle]

theorem regWrite_setFmcrst (w : Word) :
    q.regWrite .ahb3rstr ((w &&& ~~~q.fields.fmcrst.mask) ||| (q.fields.fmcrst.put 1 &&& q.fields.fmcrst.mask)) =
      .ok q.fmcReset := by
  have hw : q.fields.fmcrst.width = 1 := layoutOk_width hp (by simp [FieldMap.fixedWidths])
  have hle := fieldsFit_le (layoutOk_fits hp (r := .ahb3rstr) (by decide)) List.mem_cons_self
  simp only [State.regWrite, BitField.isSet_modify_one w hw hle, if_true]

theorem regWrite_clearFmcrst (w : Word) :
    q.regWrite .ahb3rstr ((w &&& ~~~q.fields.fmcrst.mask) ||| (q.fields.fmcrst.put 0 &&& q.fields.fmcrst.mask)) =
      .ok { q with fmcrst := false } := by
  have hle := fieldsFit_le (layoutOk_fits hp (r := .ahb3rstr) (by decide)) List.mem_cons_self
  have hclear : q.fields.fmcrst.isSet
      ((w &&& ~~~q.fields.fmcrst.mask) ||| (q.fields.fmcrst.put 0 &&& q.fields.fmcrst.mask)) = false := by
    rw [BitField.isSet, BitField.get_modify _ _ _ hle, BitField.get_put_of_lt _ _ hle (by positivity)]
    rfl
  simp only [State.regWrite, hclear, if_neg Bool.false_ne_true]

/-- The choice at the opening read, and the steps of enable, verify and reset pulse of an unclocked FMC. -/
theorem goes_clockPhase {l : List HostStep} (hn : q.fmcPending = none) :
    Goes (⟨.clockBranch, none, none⟩ :: l) q l q.clockPhase := by
  cases he : q.fmcen with
  | true =>
    rw [State.clockPhase, if_pos he]
    exact goes_clockBranch_clocked hn he
  | false =>
    rw [State.clockPhase, if_neg (Bool.eq_false_iff.1 he)]
    have enable {m : List HostStep} := goes_modify (l := m) (p := none) Reg.noConfusion (regWrite_setFmcen hp _) hn hn
    have verify {m : List HostStep} := goes_pollClock (q := { q with fmcen := true }) (l := m) (p := none) hn rfl
    have hold {m : List HostStep} := goes_modify (q := { q with fmcen := true }) (l := m) (p := none) Reg.noConfusion
      (regWrite_setFmcrst (q := { q with fmcen := true }) hp _) hn rfl
    have release {m : List HostStep} := goes_modify (q := { q.fmcReset with fmcen := true }) (l := m) (p := some .geometry)
      Reg.noConfusion (regWrite_clearFmcrst (q := { q.fmcReset with fmcen := true }) hp _) rfl rfl
    exact (goes_clockBranch_unclocked (p := none) hn he).trans (enable.trans (verify.trans (hold.trans release)))

end

end Sys2Proof.Machine
end

section
/-! PROOFS, family 44_sdram_sequencer: the end of a bring-up (R222, R238 to R241). -/

namespace Sys2Proof.Machine

/-! ### What each phase leaves unchanged -/

/-- The parts of the state that no phase after CLOCK_ENABLE touches. -/
def State.untouched (s : State) :=
  (s.seqBank, s.res, s.faulted, s.refused, s.sdram, s.layers, s.gcr, s.srcr, s.watches)

/-- The control and timing registers. -/
def State.bankRegs (s : State) := (s.sdcr1, s.sdcr2, s.sdtr1, s.sdtr2)

/-- The commands of a log, without the counts at which they were completed. -/
def State.commandLog (s : State) : List (Bool × Bool × BitVec 3 × Option Nat) :=
  s.sdramLog.map fun e => (e.bank1, e.bank2, e.mode, e.arg)

section
variable (q : State) (b : Bank) (full part w : Word) (ph : SeqPhase) (m : Bool) (st : List Bool)

@[simp] theorem State.controlSet_untouched : (q.controlSet b full part).untouched = q.untouched := rfl
@[simp] theorem State.controlSet_csStack : (q.controlSet b full part).csStack = q.csStack := rfl
@[simp] theorem State.controlSet_commandLog : (q.controlSet b full part).commandLog = q.commandLog := rfl
@[simp] theorem State.controlSet_params : (q.controlSet b full part).params = q.params := rfl
@[simp] theorem State.timingSet_untouched : (q.timingSet b full part).untouched = q.untouched := rfl
@[simp] theorem State.timingSet_csStack : (q.timingSet b full part).csStack = q.csStack := rfl
@[simp] theorem State.timingSet_commandLog : (q.timingSet b full part).commandLog = q.commandLog := rfl
@[simp] theorem State.timingSet_params : (q.timingSet b full part).params = q.params := rfl
@[simp] theorem State.commanded_untouched : (q.commanded w ph).untouched = q.untouched := rfl
@[simp] theorem State.commanded_csStack : (q.commanded w ph).csStack = q.csStack := rfl
@[simp] theorem State.commanded_bankRegs : (q.commanded w ph).bankRegs = q.bankRegs := rfl
@[simp] theorem State.commanded_params : (q.commanded w ph).params = q.params := rfl
@[simp] theorem State.commanded_sdcmr : (q.commanded w ph).sdcmr = w := rfl
@[simp] theorem State.wentLive_untouched : (q.wentLive w m st).untouched = q.untouched := rfl
@[simp] theorem State.wentLive_bankRegs : (q.wentLive w m st).bankRegs = q.bankRegs := rfl
@[simp] theorem State.wentLive_sdcmr : (q.wentLive w m st).sdcmr = q.sdcmr := rfl
@[simp] theorem State.wentLive_commandLog : (q.wentLive w m st).commandLog = q.commandLog := rfl

end

/-- The log entry of a command has the word's fields (R246). -/
theorem sdramEntry_word {p : Params} (hp : p.layoutOk = true) (mode : BitVec 3) (c₁ c₂ : Bool) (n : BitVec 4) (d : BitVec 13)
    (c : Word) : sdramEntry p.regMap.fields.sdcmr (p.regMap.fields.sdcmr.word mode c₁ c₂ n d) c =
      ⟨c₁, c₂, mode, if mode.toNat = 3 then some (n.toNat + 1) else if mode.toNat = 4 then some d.toNat else none, c⟩ := by
  have get {f : BitField} {v : Nat} (hf : (f, v) ∈ commandParts p.regMap.fields.sdcmr mode c₁ c₂ n d) :
      f.get (p.regMap.fields.sdcmr.word mode c₁ c₂ n d) = v := by
    rw [commandWord_eq]
    exact (commandParts_fit mode c₁ c₂ n d hp).get hf
  have hmode := get (f := p.regMap.fields.sdcmr.mode) (v := mode.toNat) (by simp [commandParts])
  have hctb1 := get (f := p.regMap.fields.sdcmr.ctb1) (v := c₁.toNat) (by simp [commandParts])
  have hctb2 := get (f := p.regMap.fields.sdcmr.ctb2) (v := c₂.toNat) (by simp [commandParts])
  have hnrfs := get (f := p.regMap.fields.sdcmr.nrfs) (v := n.toNat) (by simp [commandParts])
  have hmrd := get (f := p.regMap.fields.sdcmr.mrd) (v := d.toNat) (by simp [commandParts])
  have hbit (c : Bool) : (c.toNat != 0) = c := by cases c <;> rfl
  simp only [sdramEntry, commandArg, BitField.isSet, hmode, hctb1, hctb2, hnrfs, hmrd, hbit, BitVec.ofNat_toNat,
    BitVec.setWidth_eq]

theorem commandLog_commanded {p : Params} {q : State} (hp : p.layoutOk = true) (hq : q.params = p) (b : Bank)
    (mode : BitVec 3) (n : BitVec 4) (d : BitVec 13) (ph : SeqPhase) :
    (q.commanded (bringupWord p b mode n d) ph).commandLog = q.commandLog ++ [(b.ctb1, b.ctb2, mode,
      if mode.toNat = 3 then some (n.toNat + 1) else if mode.toNat = 4 then some d.toNat else none)] := by
  subst hq
  simp only [State.commandLog, State.commanded, bringupWord, List.map_append, sdramEntry_word hp, List.map_cons, List.map_nil]

/-! ### The phases after CLOCK_ENABLE -/

/-- The host steps of a bring-up after phase CLOCK_ENABLE. -/
def stepsFromGeometry (p : Params) (b : Bank) (sdcr sdtr : Word) (mr : BitVec 13) (refresh : BitVec 16) : List HostStep :=
  phaseSteps .timing (geometryActs b sdcr (ctrlMask p.regMap.fields p.bank1OnlyCtrl)) ++
    (phaseSteps .cmdClk (timingActs b sdtr (timMask p.regMap.fields p.bank1OnlyTiming)) ++
    (phaseSteps .cmdPall (cmdClkActs p.regMap.fields b p.clkHz) ++
    (phaseSteps .cmdAref (cmdPallActs p.regMap.fields b) ++
    (phaseSteps .cmdLmr (cmdArefActs p.regMap.fields b) ++
    (phaseSteps .refresh (cmdLmrActs p.regMap.fields b mr) ++
    [⟨.write .sdrtr (sdrtrWord p.regMap.fields refresh), some .live, none⟩, ⟨.leave, none, none⟩])))))

theorem bringupSteps_cons (p : Params) (b : Bank) (sdcr sdtr : Word) (mr : BitVec 13) (refresh : BitVec 16) :
    bringupSteps p b sdcr sdtr mr refresh = ⟨.enterBringup b, none, none⟩ :: ⟨.clockBranch, none, none⟩ ::
      stepsFromGeometry p b sdcr sdtr mr refresh := by
  simp only [bringupSteps, stepsFromGeometry, List.append_assoc]
  rfl

/-- The state after a bring-up of bank `b` that began its phase GEOMETRY in `q`, with the mask `m` and the stack `st` restored. -/
def State.broughtUp (q : State) (b : Bank) (sdcr sdtr : Word) (mr : BitVec 13) (refresh : BitVec 16) (m : Bool)
    (st : List Bool) : State :=
  (((((((q.controlSet b sdcr (ctrlMask q.fields q.params.bank1OnlyCtrl)).timingSet b sdtr
    (timMask q.fields q.params.bank1OnlyTiming)).commanded (bringupWord q.params b 1 0 0) .cmdPall).commanded
    (bringupWord q.params b 2 0 0) .cmdAref).commanded (bringupWord q.params b 3 7 0) .cmdLmr).commanded
    (bringupWord q.params b 4 0 mr) .refresh).wentLive (sdrtrWord q.fields refresh) m st)

section
variable {p : Params} {q : State} {b : Bank} {sdcr sdtr : Word} {mr : BitVec 13} {refresh : BitVec 16} {m : Bool}
  {st : List Bool}

theorem goes_delay_powerup (h : Ready p q) {l : List HostStep} :
    Goes (plainSteps (delayActs (powerupTicks p.clkHz)) ++ l) q l q := by
  refine goes_delay h.counts h.unpending ?_
  have := p.clkHz.isLt
  rw [powerupTicks_toNat]
  omega

/-- The phases after CLOCK_ENABLE, one after the other. -/
theorem goes_bringup (h : Ready p q) (hsdcr : within (p.writeMask .sdcr1) sdcr = true)
    (hsdtr : within (p.writeMask .sdtr1) sdtr = true) (hold : within (p.writeMask .sdcr1) q.sdcr1 = true)
    (hold' : within (p.writeMask .sdtr1) q.sdtr1 = true) (hs : q.csStack = m :: st) :
    Goes (stepsFromGeometry p b sdcr sdtr mr refresh) q [] (q.broughtUp b sdcr sdtr mr refresh m st) := by
  obtain rfl := h.params
  have hrefresh : within (q.params.writeMask .sdrtr) (sdrtrWord q.fields refresh) = true :=
    within_put refresh.toNat List.mem_cons_self
  have hcontrol := h.controlSet b sdcr (ctrlMask q.fields q.params.bank1OnlyCtrl)
  have htiming := hcontrol.timingSet b sdtr (timMask q.fields q.params.bank1OnlyTiming)
  have hclk := htiming.commanded (bringupWord q.params b 1 0 0) .cmdPall
  have hpall := hclk.commanded (bringupWord q.params b 2 0 0) .cmdAref
  have haref := hpall.commanded (bringupWord q.params b 3 7 0) .cmdLmr
  have hlmr := haref.commanded (bringupWord q.params b 4 0 mr) .refresh
  have hacts : cmdArefActs q.fields b = sendActs q.fields b 3 7 0 ++ [.pollReady] := rfl
  rw [stepsFromGeometry, hacts, State.broughtUp]
  exact (goes_geometry h hsdcr hold).trans ((goes_timing hcontrol hsdtr hold').trans
    ((goes_commandPhase .cmdPall htiming fun _ _ h' => goes_delay_powerup h').trans
    ((goes_plainCommandPhase .cmdAref hclk).trans ((goes_plainCommandPhase .cmdLmr hpall).trans
    ((goes_plainCommandPhase .refresh haref).trans (goes_refresh hlmr hrefresh (by simpa using hs)))))))

/-! ### The end of a bring-up -/

theorem broughtUp_untouched : (q.broughtUp b sdcr sdtr mr refresh m st).untouched = q.untouched := by
  simp [State.broughtUp]

/-- What phase REFRESH and the end of the critical section leave. -/
theorem broughtUp_live : (q.broughtUp b sdcr sdtr mr refresh m st).seqPhase = .live ∧
    (q.broughtUp b sdcr sdtr mr refresh m st).sdrtr = sdrtrWord q.fields refresh ∧
    (q.broughtUp b sdcr sdtr mr refresh m st).imask = m ∧ (q.broughtUp b sdcr sdtr mr refresh m st).csStack = st :=
  ⟨rfl, rfl, rfl, rfl⟩

theorem broughtUp_sdcmr : (q.broughtUp b sdcr sdtr mr refresh m st).sdcmr = bringupWord q.params b 4 0 mr := by
  simp [State.broughtUp]

theorem broughtUp_bankRegs : (q.broughtUp b sdcr sdtr mr refresh m st).bankRegs =
    (if b = .bankB then (q.sdcr1 &&& ~~~ctrlMask q.fields q.params.bank1OnlyCtrl) |||
        (sdcr &&& ctrlMask q.fields q.params.bank1OnlyCtrl) else sdcr,
      if b = .bankA then q.sdcr2 else sdcr &&& ~~~ctrlMask q.fields q.params.bank1OnlyCtrl,
      if b = .bankB then (q.sdtr1 &&& ~~~timMask q.fields q.params.bank1OnlyTiming) |||
        (sdtr &&& timMask q.fields q.params.bank1OnlyTiming) else sdtr,
      if b = .bankA then q.sdtr2 else sdtr &&& ~~~timMask q.fields q.params.bank1OnlyTiming) := by
  simp only [State.broughtUp, State.wentLive_bankRegs, State.commanded_bankRegs]
  rfl

/-- The four commands are logged in order (R246), eight refreshes among them (R238). -/
theorem broughtUp_commandLog (hp : q.params.layoutOk = true) : (q.broughtUp b sdcr sdtr mr refresh m st).commandLog =
    q.commandLog ++ [(b.ctb1, b.ctb2, 1, none), (b.ctb1, b.ctb2, 2, none), (b.ctb1, b.ctb2, 3, some 8),
      (b.ctb1, b.ctb2, 4, some mr.toNat)] := by
  rw [State.broughtUp, State.wentLive_commandLog, commandLog_commanded hp (by simp), commandLog_commanded hp (by simp),
    commandLog_commanded hp (by simp), commandLog_commanded hp (by simp)]
  simp

theorem Ready.broughtUp (h : Ready p q) : Ready p (q.broughtUp b sdcr sdtr mr refresh m st) := by
  simp only [State.broughtUp]
  exact ((((((h.controlSet ..).timingSet ..).commanded ..).commanded ..).commanded ..).commanded ..).wentLive ..

end

/-! ### The whole bring-up -/

section
variable {q : State}

theorem clockPhase_of_clocked (h : q.fmcen = true) : q.clockPhase = { q with seqPhase := .geometry } := if_pos h

theorem clockPhase_of_unclocked (h : q.fmcen = false) :
    q.clockPhase = { q.fmcReset with fmcen := true, fmcrst := false, seqPhase := .geometry } :=
  if_neg (Bool.eq_false_iff.1 h)

theorem clockPhase_untouched : q.clockPhase.untouched = q.untouched ∧ q.clockPhase.csStack = q.csStack ∧
    q.clockPhase.params = q.params ∧ q.clockPhase.commandLog = q.commandLog := by
  cases h : q.fmcen with
  | true => rw [clockPhase_of_clocked h]; exact ⟨rfl, rfl, rfl, rfl⟩
  | false => rw [clockPhase_of_unclocked h]; exact ⟨rfl, rfl, rfl, rfl⟩

theorem ready_clockPhase (hr : q.params.fmcResponds = true) (hf : q.fmcrst = false) (hb : q.busy = false)
    (hn : q.fmcPending = none) (hc : q.counterEnabled = true) : Ready q.params q.clockPhase := by
  cases h : q.fmcen with
  | true => rw [clockPhase_of_clocked h]; exact ⟨rfl, hr, h, hf, hb, hn, hc⟩
  | false => rw [clockPhase_of_unclocked h]; exact ⟨rfl, hr, rfl, rfl, rfl, rfl, hc⟩

/-- The control and timing registers at the beginning of phase GEOMETRY: the reset words if phase CLOCK_ENABLE reset the FMC. -/
theorem clockPhase_bankRegs : q.clockPhase.bankRegs =
    (if q.fmcen then q.sdcr1 else q.params.resetWord .sdcr1, if q.fmcen then q.sdcr2 else q.params.resetWord .sdcr2,
      if q.fmcen then q.sdtr1 else q.params.resetWord .sdtr1, if q.fmcen then q.sdtr2 else q.params.resetWord .sdtr2) := by
  cases h : q.fmcen with
  | true => rw [clockPhase_of_clocked h]; rfl
  | false => rw [clockPhase_of_unclocked h]; rfl

end

/-- The state of a bring-up after its first host step (R222). -/
def State.bringupBegun (s : State) (b : Bank) (l : List HostStep) : State :=
  { s.csEnter with seqBank := some b, seqPhase := .clockEnable, ctx := { todo := l } }

/-- What remains of the state of a bring-up that has returned. -/
def State.bringupEnd (s : State) (b : Bank) (sdcr sdtr : Word) (mr : BitVec 13) (refresh : BitVec 16) : State :=
  (s.bringupBegun b []).quiet.clockPhase.broughtUp b sdcr sdtr mr refresh s.imask s.csStack

/-- What a control or timing register holds before phase GEOMETRY: its reset word if phase CLOCK_ENABLE resets the FMC. -/
def State.regBefore (s : State) (r : Reg) : Word := if s.fmcen then s.regHeld r else s.params.resetWord r

section
variable {s : State} {b : Bank} {sdcr sdtr : Word} {mr : BitVec 13} {refresh : BitVec 16}

theorem beginSteps_bringup : s.beginSteps (bringupSteps s.params b sdcr sdtr mr refresh) =
    s.bringupBegun b (⟨.clockBranch, none, none⟩ :: stepsFromGeometry s.params b sdcr sdtr mr refresh) := by
  rw [bringupSteps_cons]
  rfl

theorem bringupWords_eq_some {p : Params} {cfg : SdramConfig} (h : bringupWords p cfg = some (sdcr, mr)) :
    sdcrWord p.regMap.fields p.fieldValues cfg.geometry = some sdcr := by
  simp only [bringupWords, Option.bind_eq_bind, Option.bind_eq_some_iff, Option.pure_def, Option.some.injEq,
    Prod.mk.injEq] at h
  obtain ⟨_, hw, _, _, rfl, _⟩ := h
  exact hw

theorem quiet_commandLog (u : State) : u.quiet.commandLog = u.commandLog := by
  simp [State.commandLog, State.quiet]

theorem bringupBegun_bankRegs : (s.bringupBegun b []).quiet.clockPhase.bankRegs =
    (s.regBefore .sdcr1, s.regBefore .sdcr2, s.regBefore .sdtr1, s.regBefore .sdtr2) :=
  clockPhase_bankRegs

theorem within_regBefore (hinv : s.regInv = true) : within (s.params.writeMask .sdcr1) (s.regBefore .sdcr1) = true ∧
    within (s.params.writeMask .sdtr1) (s.regBefore .sdtr1) = true := by
  have hs := (regInv_iff s).1 hinv
  unfold State.regBefore
  split
  · exact ⟨hs.sdcr1, hs.sdtr1⟩
  · exact ⟨within_resetWord s.params (by decide), within_resetWord s.params (by decide)⟩

theorem bringupEnd_untouched : (s.bringupEnd b sdcr sdtr mr refresh).untouched =
    (some b, s.res, s.faulted, s.refused, s.sdram, s.layers, s.gcr, s.srcr, s.watches) := by
  obtain ⟨hkept, -⟩ := clockPhase_untouched (q := (s.bringupBegun b []).quiet)
  rw [State.bringupEnd, broughtUp_untouched, hkept]
  rfl

theorem bringupEnd_bankRegs : (s.bringupEnd b sdcr sdtr mr refresh).bankRegs =
    (if b = .bankB then (s.regBefore .sdcr1 &&& ~~~ctrlMask s.fields s.params.bank1OnlyCtrl) |||
        (sdcr &&& ctrlMask s.fields s.params.bank1OnlyCtrl) else sdcr,
      if b = .bankA then s.regBefore .sdcr2 else sdcr &&& ~~~ctrlMask s.fields s.params.bank1OnlyCtrl,
      if b = .bankB then (s.regBefore .sdtr1 &&& ~~~timMask s.fields s.params.bank1OnlyTiming) |||
        (sdtr &&& timMask s.fields s.params.bank1OnlyTiming) else sdtr,
      if b = .bankA then s.regBefore .sdtr2 else sdtr &&& ~~~timMask s.fields s.params.bank1OnlyTiming) := by
  obtain ⟨-, -, hparams, -⟩ := clockPhase_untouched (q := (s.bringupBegun b []).quiet)
  have hold := bringupBegun_bankRegs (s := s) (b := b)
  simp only [State.bankRegs, Prod.mk.injEq] at hold
  obtain ⟨hsdcr1, hsdcr2, hsdtr1, hsdtr2⟩ := hold
  rw [State.bringupEnd, broughtUp_bankRegs, State.fields, hsdcr1, hsdcr2, hsdtr1, hsdtr2, hparams]
  rfl

theorem bringupEnd_commandLog (hp : s.params.layoutOk = true) : (s.bringupEnd b sdcr sdtr mr refresh).commandLog =
    s.commandLog ++ [(b.ctb1, b.ctb2, 1, none), (b.ctb1, b.ctb2, 2, none), (b.ctb1, b.ctb2, 3, some 8),
      (b.ctb1, b.ctb2, 4, some mr.toNat)] := by
  obtain ⟨-, -, hparams, hlog⟩ := clockPhase_untouched (q := (s.bringupBegun b []).quiet)
  rw [State.bringupEnd, broughtUp_commandLog (by rw [hparams]; exact hp), hlog, quiet_commandLog]
  rfl

theorem bringupEnd_sdcmr : (s.bringupEnd b sdcr sdtr mr refresh).sdcmr = bringupWord s.params b 4 0 mr := by
  obtain ⟨-, -, hparams, -⟩ := clockPhase_untouched (q := (s.bringupBegun b []).quiet)
  rw [State.bringupEnd, broughtUp_sdcmr, hparams]
  rfl

theorem bringupEnd_live : (s.bringupEnd b sdcr sdtr mr refresh).seqPhase = .live ∧
    (s.bringupEnd b sdcr sdtr mr refresh).sdrtr = sdrtrWord s.fields refresh ∧
    (s.bringupEnd b sdcr sdtr mr refresh).imask = s.imask ∧ (s.bringupEnd b sdcr sdtr mr refresh).csStack = s.csStack := by
  obtain ⟨-, -, hparams, -⟩ := clockPhase_untouched (q := (s.bringupBegun b []).quiet)
  have hfields : (s.bringupBegun b []).quiet.clockPhase.fields = s.fields := congrArg (·.regMap.fields) hparams
  rw [State.bringupEnd, ← hfields]
  exact broughtUp_live

end

section
variable {s : State} {b : Bank} {sdcr sdtr : Word} {mr : BitVec 13} {refresh : BitVec 16} (hr : s.params.fmcResponds = true)
  (hf : s.fmcrst = false) (hb : s.busy = false) (hn : s.fmcPending = none) (hc : s.counterEnabled = true)
include hr hf hb hn hc

theorem ready_bringupEnd : Ready s.params (s.bringupEnd b sdcr sdtr mr refresh) :=
  (ready_clockPhase (q := (s.bringupBegun b []).quiet) hr hf hb hn hc).broughtUp

/-- The rounds of a bring-up, from its first host step to its return (R222). -/
theorem goes_wholeBringup (hp : s.params.layoutOk = true) (hinv : s.regInv = true)
    (hsdcr : within (s.params.writeMask .sdcr1) sdcr = true) (hsdtr : within (s.params.writeMask .sdtr1) sdtr = true) :
    Goes (⟨.clockBranch, none, none⟩ :: stepsFromGeometry s.params b sdcr sdtr mr refresh) (s.bringupBegun b []).quiet []
      (s.bringupEnd b sdcr sdtr mr refresh) := by
  have hregs := bringupBegun_bankRegs (s := s) (b := b)
  simp only [State.bankRegs, Prod.mk.injEq] at hregs
  obtain ⟨hsdcr1, -, hsdtr1, -⟩ := hregs
  obtain ⟨hold, hold'⟩ := within_regBefore hinv
  obtain ⟨-, hstack, -⟩ := clockPhase_untouched (q := (s.bringupBegun b []).quiet)
  exact (goes_clockPhase (q := (s.bringupBegun b []).quiet) hp hn).trans
    (goes_bringup (ready_clockPhase (q := (s.bringupBegun b []).quiet) hr hf hb hn hc) hsdcr hsdtr (by rwa [hsdcr1])
      (by rwa [hsdtr1]) hstack)

end

/-- Settles O39: from the first host step (`beginSteps_bringup`) the rounds lead through the phases to the end of the bring-up
(`goes_wholeBringup`), where the lemmas on `State.bringupEnd` say what each register holds. -/
theorem bringupReachesLive : Obligations.BringupReachesLive := by
  intro s bank b cfg sdcr mr cyc hp hwf hbank hidle hwords hcount hcyc hresp hrst hbusy hpend hinv m shared only sdtr old
  have hexec := (exec_sdBringup hwf hbank hidle hwords hcount hcyc).trans (congrArg Host.Outcome.next beginSteps_bringup)
  obtain ⟨n, -, hctx, hquiet⟩ := goes_wholeBringup (b := b) (mr := mr) (refresh := cyc.refresh) hresp hrst hbusy hpend hcount
    hp hinv (within_sdcrWord (bringupWords_eq_some hwords)) (within_sdtrWord m cyc) (s.bringupBegun b _) ⟨rfl, nofun, rfl⟩
  refine ⟨_, n, hexec, rfl, rfl, rfl, ?_⟩
  intro u
  replace hquiet : u.quiet = s.bringupEnd b sdcr sdtr mr cyc.refresh := hquiet
  have hready : Ready s.params u.quiet := hquiet ▸ ready_bringupEnd hresp hrst hbusy hpend hcount
  have huntouched := (congrArg State.untouched hquiet).trans bringupEnd_untouched
  have hregs := (congrArg State.bankRegs hquiet).trans bringupEnd_bankRegs
  simp only [State.untouched, State.bankRegs, Prod.mk.injEq] at huntouched hregs
  obtain ⟨hbanks, hres, hfaulted, hrefused, hsdram, hlayers, hgcr, hsrcr, hwatches⟩ := huntouched
  obtain ⟨hsdcr1, hsdcr2, hsdtr1, hsdtr2⟩ := hregs
  have hlive := bringupEnd_live (s := s) (b := b) (sdcr := sdcr) (sdtr := sdtr) (mr := mr) (refresh := cyc.refresh)
  rw [← hquiet] at hlive
  obtain ⟨hphase, hsdrtr, himask, hstack⟩ := hlive
  have hcommands : u.commandLog = _ := (quiet_commandLog u).symm.trans
    ((congrArg State.commandLog hquiet).trans (bringupEnd_commandLog hp))
  exact ⟨hctx rfl, hphase, hbanks, himask, hstack, hready.clocked, hready.released, hready.idle, hready.unpending, hsdcr1, hsdcr2,
    hsdtr1, hsdtr2, (congrArg State.sdcmr hquiet).trans bringupEnd_sdcmr, hsdrtr, hcommands, hres, hfaulted, hrefused, hsdram,
    hlayers, hgcr, hsrcr, hwatches⟩

end Sys2Proof.Machine
end

section
/-! PROOFS, family 45_ltdc: the words of the LTDC registers (R271, R274 to R286; 10_state.md R49 to R53). What a field reads
of a word in which several fields, a flag or GCR's read-write fields are written; no word that the block puts into a
register has a bit outside its fields. -/

namespace Sys2Proof.Machine

/-! ### Fields of a layout by their place in the list -/

/-- Fields of a layout at different places of its list are apart. -/
theorem fieldsFit_apart_of_ne {fs : List BitField} (h : fieldsFit fs = true) {i j : Nat} (hij : i ≠ j) {f g : BitField}
    (hf : fs[i]? = some f) (hg : fs[j]? = some g) : f.apart g = true := by
  induction fs generalizing i j with
  | nil => cases hf
  | cons a fs ih =>
    have hrest : fieldsFit fs = true := by
      simp only [fieldsFit, Bool.and_eq_true] at h
      exact h.2
    match i, j with
    | 0, 0 => exact absurd rfl hij
    | 0, j + 1 =>
      cases hf
      exact fieldsFit_apart h (List.mem_of_getElem? hg)
    | i + 1, 0 =>
      cases hg
      exact apart_symm (fieldsFit_apart h (List.mem_of_getElem? hf))
    | i + 1, j + 1 => exact ih hrest (fun e => hij (congrArg (· + 1) e)) hf hg

/-- The fields at the places `I` are apart from those at the places `J`, if these are other places. -/
theorem fieldsFit_apart_places {fs : List BitField} (h : fieldsFit fs = true) {I J : List Nat}
    (hd : ∀ i ∈ I, ∀ j ∈ J, i ≠ j) : ∀ f ∈ I.filterMap (fs[·]?), ∀ g ∈ J.filterMap (fs[·]?), f.apart g = true := by
  intro f hf g hg
  obtain ⟨i, hi, hf⟩ := List.mem_filterMap.1 hf
  obtain ⟨j, hj, hg⟩ := List.mem_filterMap.1 hg
  exact fieldsFit_apart_of_ne h (hd i hi j hj) hf hg

/-! ### Words in which several fields are written -/

/-- Two words read the same in a field if they have the same bits there. -/
theorem get_congr {f : BitField} {w v : Word} (h : ∀ j < f.width, w.getLsbD (f.pos + j) = v.getLsbD (f.pos + j)) :
    f.get w = f.get v := by
  refine Nat.eq_of_testBit_eq fun j => ?_
  rw [f.get_bit, f.get_bit]
  by_cases hj : j < f.width
  · rw [h j hj]
  · simp [hj]

section
variable {f : BitField} {fs : List BitField}

/-- A bit of a field is in the mask of any fields it is one of. -/
theorem fieldsMask_bit_of_mem (hf : f ∈ fs) (hle : f.pos + f.width ≤ 32) {j : Nat} (hj : j < f.width) :
    (fieldsMask fs).getLsbD (f.pos + j) = true := by
  rw [fieldsMask_bit, List.any_eq_true]
  exact ⟨f, hf, by rw [f.mask_bit]; simp; omega⟩

/-- A bit of a field is not in the mask of fields that are apart from it. -/
theorem fieldsMask_bit_of_apart (hf : ∀ g ∈ fs, f.apart g = true) {j : Nat} (hj : j < f.width) :
    (fieldsMask fs).getLsbD (f.pos + j) = false := by
  rw [fieldsMask_bit, List.any_eq_false]
  intro g hg
  have ha := hf g hg
  simp only [BitField.apart, Bool.or_eq_true, decide_eq_true_eq] at ha
  rw [g.mask_bit]
  simp
  omega

theorem get_and_fieldsMask (hf : f ∈ fs) (hle : f.pos + f.width ≤ 32) (w : Word) : f.get (w &&& fieldsMask fs) = f.get w :=
  get_congr fun j hj => by rw [BitVec.getLsbD_and, fieldsMask_bit_of_mem hf hle hj, Bool.and_true]

/-- A write of several fields leaves each as written (R15, RegModify). -/
theorem get_modifyFields (hf : f ∈ fs) (hle : f.pos + f.width ≤ 32) (w v : Word) :
    f.get ((w &&& ~~~fieldsMask fs) ||| (v &&& fieldsMask fs)) = f.get v :=
  get_congr fun j hj => by
    have hm := fieldsMask_bit_of_mem hf hle hj
    simp only [BitVec.getLsbD_or, BitVec.getLsbD_and, BitVec.getLsbD_not, hm]
    simp

/-- A write of several fields leaves the fields that are apart from them (R15, RegModify). -/
theorem get_modifyFields_apart (hf : ∀ g ∈ fs, f.apart g = true) (hle : f.pos + f.width ≤ 32) (w v : Word) :
    f.get ((w &&& ~~~fieldsMask fs) ||| (v &&& fieldsMask fs)) = f.get w :=
  get_congr fun j hj => by
    have hm := fieldsMask_bit_of_apart hf hj
    have hlt : f.pos + j < 32 := by omega
    simp only [BitVec.getLsbD_or, BitVec.getLsbD_and, BitVec.getLsbD_not, hm, hlt]
    simp

theorem fieldsMask_singleton (f : BitField) : fieldsMask [f] = f.mask := BitVec.or_zero

/-- Clearing a field leaves it 0 and the fields that are apart as they are (45_ltdc.md R289). -/
theorem get_clear {g : BitField} (hle : f.pos + f.width ≤ 32) (hg : g.pos + g.width ≤ 32) (ha : g.apart f = true) (w : Word) :
    f.get (w &&& ~~~f.mask) = 0 ∧ g.get (w &&& ~~~f.mask) = g.get w := by
  constructor
  · simpa [BitField.get] using f.get_modify w 0 hle
  · simpa using g.get_modify_apart f w 0 hg ha

end

/-! ### A flag set in a register of the mask `M` (R282, R286) -/

/-- The word of a register with the bits `M` in which the flag `f` has been set. -/
def setFlag (M : Word) (f : BitField) (w : Word) : Word := (w &&& (M &&& ~~~f.mask)) ||| f.put 1

section
variable {f g : BitField} {fs : List BitField}

/-- What a RegModify of the flag stores. -/
theorem modify_and_fieldsMask (hf : f ∈ fs) (w : Word) :
    ((w &&& ~~~f.mask) ||| (f.put 1 &&& f.mask)) &&& fieldsMask fs = setFlag (fieldsMask fs) f w := by
  have hput := f.put_and_fieldsMask fs 1 hf
  rw [f.put_and_mask, setFlag, BitVec.and_or_distrib_right, hput, BitVec.and_assoc, BitVec.and_comm (~~~f.mask)]

theorem isSet_setFlag (hw : f.width = 1) (hle : f.pos + f.width ≤ 32) (M w : Word) : f.isSet (setFlag M f w) = true := by
  have hone : (f.get (setFlag M f w)).testBit 0 = true := by
    have hpos : f.pos < 32 := by omega
    rw [f.get_bit, setFlag, BitVec.getLsbD_or, f.put_bit]
    simp [hw, hpos]
  rw [BitField.isSet, bne_iff_ne]
  intro h
  rw [h] at hone
  cases hone

/-- The other fields of the register keep what they hold. -/
theorem get_setFlag_apart (hg : g ∈ fs) (hle : g.pos + g.width ≤ 32) (ha : g.apart f = true) (w : Word) :
    g.get (setFlag (fieldsMask fs) f w) = g.get w := by
  have hclear : g.get (w &&& (fieldsMask fs &&& ~~~f.mask)) = g.get (w &&& fieldsMask fs) := by
    rw [← BitVec.and_assoc]
    simpa using g.get_modify_apart f (w &&& fieldsMask fs) 0 hle ha
  rw [setFlag, BitField.get_or, hclear, get_and_fieldsMask hg hle, g.get_put_apart f 1 ha, Nat.or_zero]

end

/-! ### GCR (R49) -/

section
variable {p : Params} (hp : p.layoutOk = true)
include hp

theorem gcr_fieldsFit : fieldsFit (p.fieldsOf .gcr) = true := layoutOk_fits hp (by decide)

/-- A read-write field of GCR reads what a write put there. -/
theorem get_gcrWrite_written {f : BitField} (hf : f ∈ p.regMap.fields.gcr.written) (old w : Word) :
    f.get (gcrWrite p old w) = f.get w := by
  have hfit := gcr_fieldsFit hp
  have hle : f.pos + f.width ≤ 32 := fieldsFit_le hfit (List.mem_append_left _ hf)
  have ha : ∀ g ∈ p.regMap.fields.gcr.readOnly, f.apart g = true :=
    fun g hg => fieldsFit_apart_places hfit (I := [0, 1, 2, 3, 4, 5]) (J := [6, 7, 8]) (by decide) f hf g hg
  refine get_congr fun j hj => ?_
  have hin := fieldsMask_bit_of_mem hf hle hj
  have hout := fieldsMask_bit_of_apart ha hj
  have hlt : f.pos + j < 32 := by omega
  simp only [gcrWrite, Params.writeMask, BitVec.getLsbD_or, BitVec.getLsbD_and, BitVec.getLsbD_not, hin, hout, hlt]
  simp

/-- A read-only field of GCR keeps what it holds. -/
theorem get_gcrWrite_readOnly {f : BitField} (hf : f ∈ p.regMap.fields.gcr.readOnly) (old w : Word) :
    f.get (gcrWrite p old w) = f.get old := by
  have hle : f.pos + f.width ≤ 32 := fieldsFit_le (gcr_fieldsFit hp) (List.mem_append_right _ hf)
  refine get_congr fun j hj => ?_
  have hin := fieldsMask_bit_of_mem hf hle hj
  simp only [gcrWrite, Params.writeMask, BitVec.getLsbD_or, BitVec.getLsbD_and, BitVec.getLsbD_not, hin]
  simp

/-- A RegModify of fields of GCR leaves every field that is apart from them. -/
theorem get_gcrWrite_apart {f : BitField} {fs : List BitField} (hf : f ∈ p.fieldsOf .gcr)
    (ha : ∀ g ∈ fs, f.apart g = true) (old v : Word) :
    f.get (gcrWrite p old ((old &&& ~~~fieldsMask fs) ||| (v &&& fieldsMask fs))) = f.get old := by
  rcases List.mem_append.1 hf with hw | hr
  · rw [get_gcrWrite_written hp hw, get_modifyFields_apart ha (fieldsFit_le (gcr_fieldsFit hp) hf)]
  · exact get_gcrWrite_readOnly hp hr old _

/-- A RegModify of read-write fields of GCR leaves each as written. -/
theorem get_gcrWrite_modified {f : BitField} {fs : List BitField} (hw : f ∈ p.regMap.fields.gcr.written) (hf : f ∈ fs)
    (old v : Word) : f.get (gcrWrite p old ((old &&& ~~~fieldsMask fs) ||| (v &&& fieldsMask fs))) = f.get v := by
  rw [get_gcrWrite_written hp hw, get_modifyFields hf (fieldsFit_le (gcr_fieldsFit hp) (List.mem_append_left _ hw))]

end

/-- A write of GCR leaves no bit outside its fields. -/
theorem within_gcrWrite (p : Params) (old w : Word) : gcrWrite p old w &&& ~~~p.mask .gcr = 0 := by
  have hm : p.mask .gcr = fieldsMask p.regMap.fields.gcr.written ||| fieldsMask p.regMap.fields.gcr.readOnly :=
    fieldsMask_append _ _
  simp only [gcrWrite, Params.writeMask, hm]
  generalize fieldsMask p.regMap.fields.gcr.written = a, fieldsMask p.regMap.fields.gcr.readOnly = b
  ext i hi
  simp only [BitVec.getElem_and, BitVec.getElem_or, BitVec.getElem_not]
  cases a[i] <;> cases b[i] <;> simp

/-- The four polarities with their values (R277), in the order of their fields in GCR. -/
def polarityParts (g : GcrFields) (hs vs de pc : Bool) : List (BitField × Nat) :=
  [(g.pcpol, pc.toNat), (g.depol, de.toNat), (g.vspol, vs.toNat), (g.hspol, hs.toNat)]

theorem polarity_eq (g : GcrFields) (hs vs de pc : Bool) : g.polarity hs vs de pc = putAll (polarityParts g hs vs de pc) := by
  simp only [GcrFields.polarity, polarityParts, putAll, BitField.putBit, List.foldr_cons, List.foldr_nil]
  ac_rfl

theorem polarityParts_fit {p : Params} (hp : p.layoutOk = true) (hs vs de pc : Bool) :
    PartsFit (polarityParts p.regMap.fields.gcr hs vs de pc) := by
  have hfit := gcr_fieldsFit hp
  have fits {f : BitField} (b : Bool) (hf : (f, 1) ∈ p.regMap.fields.fixedWidths) : b.toNat < 2 ^ f.width := by
    rw [layoutOk_width hp hf]
    exact Bool.toNat_lt b
  refine ⟨?_, ?_⟩
  · simp only [Params.fieldsOf, GcrFields.written, GcrFields.readOnly, List.cons_append, fieldsFit, List.all_cons,
      Bool.and_eq_true] at hfit
    simp [polarityParts, fieldsFit, hfit]
  · simp only [polarityParts, List.forall_mem_cons]
    refine ⟨fits pc ?_, fits de ?_, fits vs ?_, fits hs ?_, by simp⟩
    all_goals simp [FieldMap.fixedWidths, GcrFields.written]

/-! ### Words within the fields of their register -/

theorem within_pairWord (q : PairPos) (hBits lBits hi lo : Nat) :
    within (fieldsMask [q.high hBits, q.low lBits]) (q.word hBits lBits hi lo) = true :=
  within_or (within_put hi (by simp)) (within_put lo (by simp))

theorem within_colourWord (c : ColourFields) (rgb : Word) : within (fieldsMask c.all) (c.word rgb) = true :=
  within_or (within_or (within_put _ (by simp [ColourFields.all])) (within_put _ (by simp [ColourFields.all])))
    (within_put _ (by simp [ColourFields.all]))

/-- The four channels of LxDCCR fill the register. -/
theorem fieldsMask_dccr {p : Params} (hp : p.layoutOk = true) (k : Nat) : p.mask (.layer k .dccr) = BitVec.allOnes 32 := by
  have hfit : fieldsFit (p.regMap.fields.layer.dcalpha :: p.regMap.fields.layer.dccr.all) = true :=
    layoutOk_fits hp (r := .layer 1 .dccr) (by decide)
  have width {f : BitField} (hf : (f, 8) ∈ p.regMap.fields.fixedWidths) : f.width = 8 := layoutOk_width hp hf
  have ha := width (f := p.regMap.fields.layer.dcalpha) (by simp [FieldMap.fixedWidths])
  have hb := width (f := p.regMap.fields.layer.dccr.blue) (by simp [FieldMap.fixedWidths, ColourFields.all])
  have hg := width (f := p.regMap.fields.layer.dccr.green) (by simp [FieldMap.fixedWidths, ColourFields.all])
  have hr := width (f := p.regMap.fields.layer.dccr.red) (by simp [FieldMap.fixedWidths, ColourFields.all])
  simp only [ColourFields.all, fieldsFit, BitField.apart, List.all_cons, List.all_nil, Bool.and_true, Bool.and_eq_true,
    Bool.or_eq_true, decide_eq_true_eq, ha, hb, hg, hr] at hfit
  refine BitVec.eq_of_getLsbD_eq fun i hi => ?_
  simp only [Params.mask, Params.fieldsOf, Params.layerFieldsOf, fieldsMask_bit, ColourFields.all, List.any_cons,
    List.any_nil, BitField.mask_bit, ha, hb, hg, hr, hi, BitVec.getLsbD_allOnes]
  simp only [decide_true, Bool.true_and, Bool.or_false, Bool.or_eq_true, Bool.and_eq_true, decide_eq_true_eq]
  omega

/-- The address of LxCFBAR fills the register. -/
theorem fieldsMask_cfbar {p : Params} (hp : p.layoutOk = true) (k : Nat) : p.mask (.layer k .cfbar) = BitVec.allOnes 32 := by
  have hfit : fieldsFit [p.regMap.fields.layer.cfbadd] = true := layoutOk_fits hp (r := .layer 1 .cfbar) (by decide)
  have hw : p.regMap.fields.layer.cfbadd.width = 32 := layoutOk_width hp (by simp [FieldMap.fixedWidths])
  have hle := fieldsFit_le hfit List.mem_cons_self
  refine BitVec.eq_of_getLsbD_eq fun i hi => ?_
  simp only [Params.mask, Params.fieldsOf, Params.layerFieldsOf, fieldsMask_bit, List.any_cons, List.any_nil,
    BitField.mask_bit, hw, hi, BitVec.getLsbD_allOnes]
  simp only [decide_true, Bool.true_and, Bool.or_false, Bool.and_eq_true, decide_eq_true_eq]
  omega

theorem within_allOnes (w : Word) : within (BitVec.allOnes 32) w = true := within_iff.2 BitVec.and_allOnes

end Sys2Proof.Machine
end

section
/-! PROOFS, family 45_ltdc: the acts of an operation made one after another. `made` says what acts leave of the state when an
agent's step `f` follows each of them; the position in the operation is put back at the end (`iterState_round`,
`beginActs_continueFor`), so that no rule about an operation speaks of the steps still to be made. -/

namespace Sys2Proof.Machine

/-! ### Acts, one after another (R10) -/

/-- What the acts leave, if each is made, with the step `f` after each; none if one of them holds or stops. -/
def made (f : State → State) : List Act → State → Option State
  | [], s => some s
  | a :: acts, s =>
    match doAct a s with
    | .done t => made f acts (f t)
    | .stay _ => none
    | .stop _ => none

section
variable {f : State → State} {s t u : State} {acts more : List Act}

theorem made_of_done {a : Act} (e : doAct a s = .done t) : made f (a :: acts) s = made f acts (f t) := by
  simp only [made, e]

theorem made_cons_eq_some {a : Act} (h : made f (a :: acts) s = some u) : ∃ t, doAct a s = .done t ∧ made f acts (f t) = some u := by
  simp only [made] at h
  split at h
  · rename_i t e
    exact ⟨t, e, h⟩
  · cases h
  · cases h

theorem made_append (h : made f acts s = some t) : made f (acts ++ more) s = made f more t := by
  induction acts generalizing s with
  | nil => cases h; rfl
  | cons a acts ih =>
    obtain ⟨v, e, h⟩ := made_cons_eq_some h
    rw [List.cons_append, made_of_done e, ih h]

end

section
variable {s t : State} {r : Reg} {acts : List Act}

theorem made_write {w : Word} (h : s.regWrite r w = .ok t) : made id (.write r w :: acts) s = made id acts t :=
  made_of_done (doAct_write h)

/-- The two acts of a RegModify (R84). -/
theorem made_modify {m v : Word} (h : ((s.regRead r).setLatch (s.regKnown r)).regWrite r
    ((s.regKnown r &&& ~~~m) ||| (v &&& m)) = .ok t) : made id (.read r :: .writeMod r m v :: acts) s = made id acts t := by
  rw [made_of_done rfl]
  exact made_of_done (doAct_writeMod h)

end

/-! ### The position in the operation does not matter to an act -/

/-- The state with the position: the host steps `l` are still to be made (R10, R300). -/
def State.standing (s : State) (l : List HostStep) : State := State.settle { s with ctx := { s.ctx with todo := l } }

theorem standing_nil (s : State) : s.standing [] = { s with ctx := Ctx.idle } := rfl

theorem standing_cons (s : State) (h : HostStep) (l : List HostStep) :
    s.standing (h :: l) = { s with ctx := { s.ctx with todo := h :: l, setupStep := h.sub } } := rfl

/-- A register write does not look at the position, and keeps it. -/
theorem regWrite_ctx (s : State) (c : Ctx) (r : Reg) (w : Word) :
    { s with ctx := c }.regWrite r w = (s.regWrite r w).map fun t => { t with ctx := c } := by
  cases r with
  | sdcmr =>
    cases hw : s.fmcWritable with
    | false =>
      rw [regWrite_of_not_fmcWritable (r := .sdcmr) rfl hw,
        regWrite_of_not_fmcWritable (s := { s with ctx := c }) (r := .sdcmr) rfl hw]
      rfl
    | true =>
      rcases Bool.eq_false_or_eq_true s.busy with hb | hb
      · rw [regWrite_sdcmr_of_busy hw hb, regWrite_sdcmr_of_busy (s := { s with ctx := c }) hw hb]
        rfl
      · rw [regWrite_sdcmr_of_ready hw hb, regWrite_sdcmr_of_ready (s := { s with ctx := c }) hw hb]
        rfl
  | ahb3rstr => simp only [State.regWrite, Except.map]; split <;> rfl
  | sdcr1 | sdcr2 | sdtr1 | sdtr2 | sdrtr =>
    have hw : ({ s with ctx := c } : State).fmcWritable = s.fmcWritable := rfl
    simp only [State.regWrite, Except.map, hw]
    split <;> rfl
  | _ => rfl

section
variable {s t : State} {a : Act}

/-- A register write with the position moved. -/
theorem writeAct_moved {r : Reg} {w : Word} (l : List HostStep) (k : Option Nat) (e : writeAct s r w = .done t) :
    writeAct { s with ctx := { s.ctx with todo := l, setupStep := k } } r w =
      .done { t with ctx := { t.ctx with todo := l, setupStep := k } } := by
  unfold writeAct at e ⊢
  rw [regWrite_ctx]
  cases hw : s.regWrite r w with
  | error f => rw [hw] at e; cases e
  | ok u =>
    obtain ⟨-, hc, -⟩ := regWrite_keeps hw
    rw [hw] at e
    cases e
    simp only [Except.map, hc]

/-- An act of an LTDC operation that is made leaves the same with the position moved. -/
theorem doAct_moved (ha : setupAct a = true) (l : List HostStep) (k : Option Nat) (e : doAct a s = .done t) :
    doAct a { s with ctx := { s.ctx with todo := l, setupStep := k } } =
      .done { t with ctx := { t.ctx with todo := l, setupStep := k } } := by
  cases a with
  | read r => cases e; cases r <;> rfl
  | writeMod r m v => exact writeAct_moved l k e
  | write r w => exact writeAct_moved l k e
  | pollReload =>
    cases hr : s.reloadReady with
    | true => rw [doAct_pollReload_of_ready hr] at e; cases e; exact doAct_pollReload_of_ready hr
    | false => rw [doAct_pollReload_of_pending hr] at e; cases e
  | windowH n x y w h =>
    simp only [doAct] at e ⊢
    split at e
    · cases e
    · rename_i hn
      have hn' : windowRefusal s.params (s.latchedPorch.1 + 1 + x) (s.latchedPorch.1 + x + w)
        (s.latchedPorch.2 + 1 + y) (s.latchedPorch.2 + y + h) = none := hn
      simp only [State.latchedPorch] at hn' e ⊢
      rw [hn']
      exact writeAct_moved l k e
  | windowV n y h =>
    simp only [doAct] at e ⊢
    exact writeAct_moved l k e
  | _ => cases ha

end

section
variable {s t : State} {h : HostStep} {l : List HostStep}

theorem settle_moved (t : State) (l : List HostStep) (k : Option Nat) :
    State.settle { t with ctx := { t.ctx with todo := l, setupStep := k } } = t.standing l := by
  cases l <;> rfl

/-- A host step whose act is made, from any position. -/
theorem performStep_standing (o : State) (ha : setupAct h.act = true) (hp : h.phase = none) (k : Option Nat)
    (e : doAct h.act s = .done t) :
    performStep o { s with ctx := { s.ctx with todo := l, setupStep := k } } h = t.standing l := by
  rw [performStep_of_done (doAct_moved ha l k e), hp]
  exact settle_moved t l k

theorem continueOp_standing (ha : setupAct h.act = true) (hp : h.phase = none) (e : doAct h.act s = .done t) :
    (s.standing (h :: l)).continueOp = t.standing l := by
  rw [continueOp_of_todo rfl]
  exact performStep_standing (s := s) _ ha hp h.sub e

theorem beginSteps_standing (ha : setupAct h.act = true) (hp : h.phase = none)
    (e : doAct h.act { s with ctx := Ctx.idle } = .done t) : s.beginSteps (h :: l) = t.standing l :=
  performStep_standing s ha hp none e

end

/-! ### Rounds of a host step and a step of another agent -/

/-- An agent's step that neither looks at the position nor changes it. -/
def KeepsPosition (f : State → State) : Prop := ∀ (s : State) (c : Ctx), f { s with ctx := c } = { f s with ctx := c }

theorem KeepsPosition.ctx {f : State → State} (hf : KeepsPosition f) (s : State) : (f s).ctx = s.ctx := by
  have h := congrArg State.ctx (hf s s.ctx)
  exact h

theorem KeepsPosition.standing {f : State → State} (hf : KeepsPosition f) (s : State) (l : List HostStep) :
    f (s.standing l) = (f s).standing l := by
  cases l with
  | nil =>
    rw [standing_nil, standing_nil]
    exact hf s Ctx.idle
  | cons h l =>
    rw [standing_cons, standing_cons, hf.ctx]
    exact hf s { s.ctx with todo := h :: l, setupStep := h.sub }

theorem keepsPosition_id : KeepsPosition id := fun _ _ => rfl

theorem keepsPosition_reload : KeepsPosition State.ltdcReloadStep := by
  intro s c
  have he : ({ s with ctx := c } : State).reloadEnabled = s.reloadEnabled := rfl
  unfold State.ltdcReloadStep
  rw [he]
  split <;> rfl

/-- Acts of LTDC operations as host steps. -/
def LtdcSteps (l : List HostStep) : Prop := ∀ h ∈ l, setupAct h.act = true ∧ h.phase = none

/-- The rounds that make the steps `l` leave what their acts leave, at the position after them. -/
theorem iterState_round {f : State → State} (hf : KeepsPosition f) {l m : List HostStep} {s t : State} (hl : LtdcSteps l)
    (h : made f (l.map HostStep.act) s = some t) :
    iterState (fun u => f u.continueOp) l.length (s.standing (l ++ m)) = t.standing m := by
  induction l generalizing s with
  | nil => cases h; rfl
  | cons g l ih =>
    obtain ⟨⟨ha, hp⟩, hl⟩ := List.forall_mem_cons.1 hl
    obtain ⟨v, e, h⟩ := made_cons_eq_some h
    rw [List.length_cons, iterState, List.cons_append, continueOp_standing ha hp e, hf.standing]
    exact ih hl h

theorem continueFor_eq_iterState (n : Nat) (s : State) : s.continueFor n = iterState (fun u => id u.continueOp) n s := by
  induction n generalizing s with
  | zero => rfl
  | succ n ih => exact ih s.continueOp

theorem ltdcSteps_plain {acts : List Act} (h : acts.all setupAct = true) : LtdcSteps (plainSteps acts) := by
  intro g hg
  obtain ⟨a, ha, rfl⟩ := List.mem_map.1 hg
  exact ⟨List.all_eq_true.1 h a ha, rfl⟩

section
variable {s t : State} {a : Act} {acts : List Act}

/-- The first host step of an operation whose first act is made. -/
theorem beginActs_standing (ha : setupAct a = true) (e : doAct a { s with ctx := Ctx.idle } = .done t) :
    s.beginActs (a :: acts) = t.standing (plainSteps acts) :=
  beginSteps_standing ha rfl e

/-- An operation all of whose acts are made, with no step of another agent between its host steps. -/
theorem beginActs_continueFor {u : State} (hs : (a :: acts).all setupAct = true)
    (h : made id (a :: acts) { s with ctx := Ctx.idle } = some t) (hu : { t with ctx := Ctx.idle } = u) :
    (s.beginActs (a :: acts)).continueFor acts.length = u := by
  obtain ⟨v, e, h⟩ := made_cons_eq_some h
  obtain ⟨ha, hs⟩ := Bool.and_eq_true_iff.1 hs
  have hround := iterState_round keepsPosition_id (m := []) (ltdcSteps_plain hs) (by rw [plainSteps_acts]; exact h)
  rw [List.append_nil, plainSteps, List.length_map, ← plainSteps] at hround
  rw [beginActs_standing ha e, continueFor_eq_iterState, ← hu]
  exact hround

end

end Sys2Proof.Machine
end

section
/-! PROOFS, family 45_ltdc: what each LTDC operation makes of the state, as one rule per operation on its acts (R271 to R287).
The rules hold from every state, so that the operations by themselves and LT_SETUP, which is made of them, use the same. -/

namespace Sys2Proof.Machine

/-! ### The shadow copy of one layer (10_state.md R53) -/

section
variable (s : State) (k : Byte) (f g : LayerRegs → LayerRegs)

theorem withShadow_withShadow : (s.withShadow k f).withShadow k g = s.withShadow k fun l => g (f l) := by
  by_cases hk : k.toNat - 1 < s.layers.length
  · simp [State.withShadow, State.setLayer, State.layer, hk]
  · simp [State.withShadow, State.setLayer, State.layer, List.set_eq_of_length_le (Nat.le_of_not_lt hk)]

theorem params_withShadow : (s.withShadow k f).params = s.params := rfl

theorem layers_length_withShadow : (s.withShadow k f).layers.length = s.layers.length := List.length_set

variable {s k}

theorem layer_withShadow (h1 : 1 ≤ k.toNat) (hn : k.toNat ≤ s.layers.length) :
    (s.withShadow k f).layer k.toNat = { s.layer k.toNat with shadow := f (s.layer k.toNat).shadow } := by
  have hk : k.toNat - 1 < s.layers.length := by omega
  simp [State.withShadow, State.setLayer, State.layer, hk]

theorem layer_withShadow_of_ne {j : Byte} (hk : 1 ≤ k.toNat) (hj : 1 ≤ j.toNat) (h : k ≠ j) :
    (s.withShadow k f).layer j.toNat = s.layer j.toNat := by
  have hne : k.toNat - 1 ≠ j.toNat - 1 := fun e => h (BitVec.eq_of_toNat_eq (by omega))
  simp [State.withShadow, State.setLayer, State.layer, hne]

end

/-! ### Register writes (R50, R51, R53, R85) -/

section
variable {s : State} {k : Byte} {r : LayerReg} {w : Word}

theorem regWrite_layer (hw : within (s.params.writeMask (.layer k.toNat r)) w = true) :
    s.regWrite (.layer k.toNat r) w = .ok (s.withShadow k fun l => l.set w r) := by
  simp only [State.regWrite, within_iff.1 hw]
  rfl

theorem regWrite_sscr (hw : within (s.params.writeMask .sscr) w = true) : s.regWrite .sscr w = .ok { s with sscr := w } := by
  simp only [State.regWrite, within_iff.1 hw]

theorem regWrite_bpcr (hw : within (s.params.writeMask .bpcr) w = true) : s.regWrite .bpcr w = .ok { s with bpcr := w } := by
  simp only [State.regWrite, within_iff.1 hw]

theorem regWrite_awcr (hw : within (s.params.writeMask .awcr) w = true) : s.regWrite .awcr w = .ok { s with awcr := w } := by
  simp only [State.regWrite, within_iff.1 hw]

theorem regWrite_twcr (hw : within (s.params.writeMask .twcr) w = true) : s.regWrite .twcr w = .ok { s with twcr := w } := by
  simp only [State.regWrite, within_iff.1 hw]

theorem regWrite_bccr (hw : within (s.params.writeMask .bccr) w = true) : s.regWrite .bccr w = .ok { s with bccr := w } := by
  simp only [State.regWrite, within_iff.1 hw]

theorem regWrite_srcr (hw : within (s.params.writeMask .srcr) w = true) :
    s.regWrite .srcr w = .ok { s with srcr := s.srcr ||| w } := by
  simp only [State.regWrite, within_iff.1 hw]

/-- A write of one layer register as an operation's act. -/
theorem made_writeLayer {p : Params} {acts : List Act} (hp : s.params = p)
    (hw : within (p.writeMask (.layer k.toNat r)) w = true) :
    made id (.write (.layer k.toNat r) w :: acts) s = made id acts (s.withShadow k fun l => l.set w r) := by
  subst hp
  exact made_write (regWrite_layer hw)

theorem within_windowH (p : Params) (j stop start : Nat) :
    within (p.writeMask (.layer j .whpcr)) (p.windowH stop start) = true :=
  within_pairWord p.regMap.fields.layer.whpcr p.hFieldBits p.hFieldBits stop start

theorem within_windowV (p : Params) (j stop start : Nat) :
    within (p.writeMask (.layer j .wvpcr)) (p.windowV stop start) = true :=
  within_pairWord p.regMap.fields.layer.wvpcr p.vFieldBits p.vFieldBits stop start

end

/-! ### The global registers (R271 to R273, R276, R277, R287, R291, R292) -/

section
variable (s : State)

theorem made_bgcolor (rgb : Word) :
    made id (bgcolorActs s.fields rgb) s = some { s with bccr := s.fields.bccr.word rgb } :=
  made_write (regWrite_bccr (within_colourWord s.fields.bccr rgb))

/-- The four boundary registers hold the pairs of running sums (R272). -/
def State.timed (t : DisplayTimingSpec) : State :=
  { s with
    sscr := s.params.boundary s.fields.sscr (hBounds t).sw (vBounds t).sw
    bpcr := s.params.boundary s.fields.bpcr (hBounds t).bp (vBounds t).bp
    awcr := s.params.boundary s.fields.awcr (hBounds t).aw (vBounds t).aw
    twcr := s.params.boundary s.fields.twcr (hBounds t).tot (vBounds t).tot }

theorem made_setTiming (t : DisplayTimingSpec) : made id (setTimingActs s.params t) s = some (s.timed t) :=
  (made_write (regWrite_sscr (within_pairWord _ _ _ _ _))).trans <|
    (made_write (regWrite_bpcr (within_pairWord _ _ _ _ _))).trans <|
    (made_write (regWrite_awcr (within_pairWord _ _ _ _ _))).trans <|
    made_write (regWrite_twcr (within_pairWord _ _ _ _ _))

/-- GCR after a RegModify of the bits `m` (R84). -/
def State.gcrModified (m v : Word) : Word := gcrWrite s.params s.gcr ((s.gcr &&& ~~~m) ||| (v &&& m))

theorem made_gcr (m v : Word) : made id [.read .gcr, .writeMod .gcr m v] s =
    some { (s.regRead .gcr).setLatch s.gcr with gcr := s.gcrModified m v } :=
  made_modify rfl

theorem made_reload (mode : ReloadMode) :
    made id (reloadActs s.fields mode) s = some { s with srcr := s.srcr ||| reloadBit s.fields mode } := by
  refine made_write (regWrite_srcr ?_)
  cases mode with
  | immediate => exact within_put 1 (by simp [Params.fieldsOf])
  | verticalBlank => exact within_put 1 (by simp [Params.fieldsOf])

end

/-! ### The registers of one layer (R274, R275, R278 to R284, R286) -/

section
variable (s : State) (k : Byte)

theorem made_window (hStart hStop vStart vStop : Nat) : made id (windowActs s.params k.toNat hStart hStop vStart vStop) s =
    some (s.withShadow k fun l => { l with
      whpcr := s.params.windowH hStop hStart, wvpcr := s.params.windowV vStop vStart }) :=
  (made_writeLayer rfl (within_windowH s.params k.toNat hStop hStart)).trans <|
    (made_writeLayer (params_withShadow s k _) (within_windowV s.params k.toNat vStop vStart)).trans
      (congrArg some (withShadow_withShadow s k _ _))

/-- The boundaries AHBP and AVBP that BPCR holds (R275). -/
def State.porch : Nat × Nat :=
  ((s.fields.bpcr.high s.params.hFieldBits).get s.bpcr, (s.fields.bpcr.low s.params.vFieldBits).get s.bpcr)

/-- The check of the window that LT_WINDOW_XYWH makes at its second host step (R274, R275). -/
def State.xywhRefusal (x y w h : Nat) : Option Refusal :=
  windowRefusal s.params (s.porch.1 + 1 + x) (s.porch.1 + x + w) (s.porch.2 + 1 + y) (s.porch.2 + y + h)

/-- The window that LT_WINDOW_XYWH places. -/
def State.windowAt (x y w h : Nat) (l : LayerRegs) : LayerRegs :=
  { l with
    whpcr := s.params.windowH (s.porch.1 + x + w) (s.porch.1 + 1 + x)
    wvpcr := s.params.windowV (s.porch.2 + y + h) (s.porch.2 + 1 + y) }

variable {s} in
/-- The second act of LT_WINDOW_XYWH, with BPCR in the latch. -/
theorem doAct_windowH {x y w h : Nat} (hl : s.ctx.latch = s.bpcr) (hr : s.xywhRefusal x y w h = none) :
    doAct (.windowH k.toNat x y w h) s =
      .done (s.withShadow k fun l => { l with whpcr := s.params.windowH (s.porch.1 + x + w) (s.porch.1 + 1 + x) }) := by
  have hp : s.latchedPorch = s.porch := by rw [State.latchedPorch, State.porch, hl]
  simp only [State.xywhRefusal] at hr
  simp only [doAct, hp, hr, writeAct, regWrite_layer (within_windowH ..)]
  rfl

variable {s} in
/-- The window does not fit, or is empty. -/
theorem doAct_windowH_refused {x y w h : Nat} {r : Refusal} (hl : s.ctx.latch = s.bpcr) (hr : s.xywhRefusal x y w h = some r) :
    doAct (.windowH k.toNat x y w h) s = .stop (.refuse r) := by
  have hp : s.latchedPorch = s.porch := by rw [State.latchedPorch, State.porch, hl]
  simp only [State.xywhRefusal] at hr
  simp only [doAct, hp, hr]

variable {s} in
/-- The third act of LT_WINDOW_XYWH, with BPCR in the latch. -/
theorem doAct_windowV {y h : Nat} (hl : s.ctx.latch = s.bpcr) : doAct (.windowV k.toNat y h) s =
    .done (s.withShadow k fun l => { l with wvpcr := s.params.windowV (s.porch.2 + y + h) (s.porch.2 + 1 + y) }) := by
  have hp : s.latchedPorch = s.porch := by rw [State.latchedPorch, State.porch, hl]
  simp only [doAct, hp, writeAct, regWrite_layer (within_windowV ..)]
  rfl

theorem made_windowXywh {x y w h : Nat} (hr : s.xywhRefusal x y w h = none) :
    made id (windowXywhActs k.toNat x y w h) s =
      some (((s.regRead .bpcr).setLatch s.bpcr).withShadow k (s.windowAt x y w h)) := by
  have hH := doAct_windowH k (s := (s.regRead .bpcr).setLatch s.bpcr) rfl hr
  have hV := doAct_windowV k (y := y) (h := h) (s := ((s.regRead .bpcr).setLatch s.bpcr).withShadow k fun l =>
    { l with whpcr := s.params.windowH (s.porch.1 + x + w) (s.porch.1 + 1 + x) }) rfl
  exact (made_of_done rfl).trans <| (made_of_done hH).trans <| (made_of_done hV).trans
    (congrArg some (withShadow_withShadow _ k _ _))

theorem made_pixelFormat (pf : Byte) : made id (pixelFormatActs s.fields k.toNat pf) s =
    some (s.withShadow k fun l => { l with pfcr := s.fields.layer.pf.put pf.toNat }) :=
  made_writeLayer rfl (within_put _ (by simp [Params.fieldsOf, Params.layerFieldsOf]))

theorem made_constAlpha (a : Byte) : made id (constAlphaActs s.fields k.toNat a) s =
    some (s.withShadow k fun l => { l with cacr := s.fields.layer.consta.put a.toNat }) :=
  made_writeLayer rfl (within_put _ (by simp [Params.fieldsOf, Params.layerFieldsOf]))

theorem made_blend (bf1 bf2 : Byte) : made id (blendActs s.fields k.toNat bf1 bf2) s =
    some (s.withShadow k fun l => { l with bfcr := blendWord s.fields bf1 bf2 }) :=
  made_writeLayer rfl (within_or (within_put _ (by simp [Params.fieldsOf, Params.layerFieldsOf]))
    (within_put _ (by simp [Params.fieldsOf, Params.layerFieldsOf])))

variable {s} in
theorem made_defaultColor (hp : s.params.layoutOk = true) (argb : Word) : made id (defaultColorActs k.toNat argb) s =
    some (s.withShadow k fun l => { l with dccr := argb }) := by
  refine made_writeLayer rfl ?_
  rw [show s.params.writeMask (.layer k.toNat .dccr) = _ from fieldsMask_dccr hp k.toNat]
  exact within_allOnes argb

variable {s} in
theorem made_fbAddr (hp : s.params.layoutOk = true) (addr : Word) : made id (fbAddrActs k.toNat addr) s =
    some (s.withShadow k fun l => { l with cfbar := addr }) := by
  refine made_writeLayer rfl ?_
  rw [show s.params.writeMask (.layer k.toNat .cfbar) = _ from fieldsMask_cfbar hp k.toNat]
  exact within_allOnes addr

theorem made_lineConfig (width bpp lines : Nat) : made id (lineConfigActs s.params k.toNat width bpp lines) s =
    some (s.withShadow k fun l => { l with
      cfblr := s.fields.layer.lineWord (linePitch (lineBytes width bpp)) (lineBytes width bpp + s.params.cfbllBias)
      cfblnr := s.fields.layer.cfblnbr.put lines }) :=
  (made_writeLayer rfl (within_or (within_put _ (by simp [Params.fieldsOf, Params.layerFieldsOf]))
    (within_put _ (by simp [Params.fieldsOf, Params.layerFieldsOf])))).trans <|
    (made_writeLayer (params_withShadow s k _) (within_put _ (by simp [Params.fieldsOf, Params.layerFieldsOf]))).trans
      (congrArg some (withShadow_withShadow s k _ _))

/-- A flag of LxCR is set (R282, R286). -/
def withFlag (p : Params) (f : BitField) (l : LayerRegs) : LayerRegs :=
  { l with cr := setFlag (fieldsMask (p.layerFieldsOf .cr)) f l.cr }

/-- The RegModify of a flag of LxCR. -/
theorem made_layerFlag {p : Params} (hp : s.params = p) {f : BitField} (hf : f ∈ p.layerFieldsOf .cr) :
    made id (setFieldActs (.layer k.toNat .cr) f 1) s =
      some (((s.regRead (.layer k.toNat .cr)).setLatch (s.layer k.toNat).shadow.cr).withShadow k (withFlag p f)) := by
  subst hp
  refine made_modify ?_
  have hw : (((s.layer k.toNat).shadow.cr &&& ~~~f.mask) ||| (f.put 1 &&& f.mask)) &&&
      s.params.writeMask (.layer k.toNat .cr) = setFlag (fieldsMask (s.params.layerFieldsOf .cr)) f (s.layer k.toNat).shadow.cr :=
    modify_and_fieldsMask hf _
  exact congrArg (fun v => Except.ok (((s.regRead (.layer k.toNat .cr)).setLatch (s.layer k.toNat).shadow.cr).withShadow k
    fun l => l.set v .cr)) hw

theorem made_layerEnable : made id (layerEnableActs s.fields k.toNat) s =
    some (((s.regRead (.layer k.toNat .cr)).setLatch (s.layer k.toNat).shadow.cr).withShadow k
      (withFlag s.params s.fields.layer.len)) :=
  made_layerFlag s k rfl (by simp [Params.layerFieldsOf])

/-- The colour key is written. -/
def State.keyed (fmt : Byte) (key : Word) : State :=
  s.withShadow k fun l => { l with ckcr := s.fields.layer.ckcr.word (colorKey888 s.params fmt key) }

theorem made_colorKey (fmt : Byte) (key : Word) : made id (colorKeyActs s.params k.toNat fmt key) s =
    some ((((s.keyed k fmt key).regRead (.layer k.toNat .cr)).setLatch ((s.keyed k fmt key).layer k.toNat).shadow.cr).withShadow k
      (withFlag s.params s.fields.layer.colken)) := by
  have hp : (s.keyed k fmt key).params = s.params := params_withShadow s k _
  have hkey : made id (colorKeyActs s.params k.toNat fmt key) s =
      made id (setFieldActs (.layer k.toNat .cr) s.fields.layer.colken 1) (s.keyed k fmt key) :=
    made_writeLayer rfl (within_colourWord s.fields.layer.ckcr _)
  rw [hkey]
  exact made_layerFlag (s.keyed k fmt key) k hp (by simp [Params.layerFieldsOf])

end

end Sys2Proof.Machine
end

section
/-! PROOFS, family 45_ltdc: the timing, the windows and the operations that write one register (R271 to R276, R278 to R281, R284).
An operation whose operands are legal begins its acts; what these leave is said by the rule of each operation. -/

namespace Sys2Proof.Machine

/-! ### Operand checks -/

section
variable {s : State} {k : Byte}

theorem layerOk_of_le {n : Nat} (h1 : 1 ≤ k.toNat) (hn : k.toNat ≤ n) : layerOk n k = true := by
  simp [layerOk, h1, hn]

theorem ne_zero_iff_toNat_ne_zero {n : Nat} {v : BitVec n} : v ≠ 0 ↔ v.toNat ≠ 0 := by
  rw [Ne, ← BitVec.toNat_inj]
  rfl

theorem timingSyncOk_iff (d : DisplayTimingSpec) : timingSyncOk d = true ↔ d.hSync ≠ 0 ∧ d.vSync ≠ 0 := by
  simp [timingSyncOk]

theorem timingFits_iff (p : Params) (d : DisplayTimingSpec) : timingFits p d = true ↔
    (hBounds d).tot < 2 ^ p.hFieldBits ∧ (vBounds d).tot < 2 ^ p.vFieldBits := by
  simp [timingFits]

/-- The four boundaries of an axis rise (R271). -/
theorem bounds_le (sync backPorch active frontPorch : Nat) : (bounds sync backPorch active frontPorch).sw ≤
      (bounds sync backPorch active frontPorch).bp ∧
    (bounds sync backPorch active frontPorch).bp ≤ (bounds sync backPorch active frontPorch).aw ∧
    (bounds sync backPorch active frontPorch).aw ≤ (bounds sync backPorch active frontPorch).tot :=
  ⟨Nat.le_add_right .., Nat.le_add_right .., Nat.le_add_right ..⟩

theorem windowRefusal_eq_none {p : Params} {hStart hStop vStart vStop : Nat} (hh : hStart ≤ hStop) (hv : vStart ≤ vStop)
    (fh : hStop < 2 ^ p.hFieldBits) (fv : vStop < 2 ^ p.vFieldBits) : windowRefusal p hStart hStop vStart vStop = none := by
  rw [windowRefusal, if_neg (by omega), if_neg (by omega)]

theorem windowRefusal_badOperand {p : Params} {hStart hStop vStart vStop : Nat} (h : hStop < hStart ∨ vStop < vStart) :
    windowRefusal p hStart hStop vStart vStop = some .badOperand :=
  if_pos h

theorem windowRefusal_fieldOverflow {p : Params} {hStart hStop vStart vStop : Nat} (hh : hStart ≤ hStop) (hv : vStart ≤ vStop)
    (h : 2 ^ p.hFieldBits ≤ hStop ∨ 2 ^ p.vFieldBits ≤ vStop) :
    windowRefusal p hStart hStop vStart vStop = some .fieldOverflow := by
  rw [windowRefusal, if_neg (by omega), if_pos h]

theorem lineOk_iff {width bpp : Nat} : lineOk width bpp = true ↔ width ≠ 0 ∧ 1 ≤ bpp ∧ bpp ≤ 4 := by
  simp [lineOk, and_assoc]

theorem lineFits_iff {p : Params} {width bpp lines : Nat} : lineFits p width bpp lines = true ↔
    width * bpp + p.cfbllBias < 2 ^ p.regMap.fields.layer.cfbll.width ∧
    (width * bpp + 63) / 64 * 64 < 2 ^ p.regMap.fields.layer.cfbp.width ∧
    lines < 2 ^ p.regMap.fields.layer.cfblnbr.width := by
  simp only [lineFits, Bool.and_eq_true, decide_eq_true_eq, and_assoc]
  rfl

theorem blendOk_iff : ∀ bf1 bf2 : Byte, blendOk bf1 bf2 = true ↔ bf1 ∈ ([4, 6] : List Byte) ∧ bf2 ∈ ([5, 7] : List Byte) := by
  intro bf1 bf2
  simp [blendOk]

/-- The factors that R118 gives are three-bit codes. -/
theorem u3Ok_of_blendOk {bf1 bf2 : Byte} (h : blendOk bf1 bf2 = true) : u3Ok bf1 = true ∧ u3Ok bf2 = true := by
  have hcodes : ∀ b ∈ ([4, 6, 5, 7] : List Byte), u3Ok b = true := by decide
  obtain ⟨h1, h2⟩ := (blendOk_iff bf1 bf2).1 h
  exact ⟨hcodes bf1 (List.mem_append_left [5, 7] h1), hcodes bf2 (List.mem_append_right [4, 6] h2)⟩

end

/-! ### Operations that begin (R107) -/

section
variable {s : State} {k : Byte} (hk : 1 ≤ k.toNat) (hn : k.toNat ≤ s.layers.length)

theorem exec_ltSetTiming {d : DisplayTimingSpec} (hs : timingSyncOk d = true) (hf : timingFits s.params d = true) :
    exec (.ltSetTiming d) s = .next (s.beginActs (setTimingActs s.params d)) := by
  simp [exec, execLtSetTiming, timingRefusal, hs, hf]

include hk hn

theorem exec_ltWindow {h0 h1 v0 v1 : BitVec 16}
    (hr : windowRefusal s.params h0.toNat h1.toNat v0.toNat v1.toNat = none) : exec (.ltWindow k h0 h1 v0 v1) s =
      .next (s.beginActs (windowActs s.params k.toNat h0.toNat h1.toNat v0.toNat v1.toNat)) := by
  simp only [exec, execLtWindow, State.numLayers, layerOk_of_le hk hn, hr]
  rfl

theorem exec_ltWindow_refused {h0 h1 v0 v1 : BitVec 16} {r : Refusal}
    (hr : windowRefusal s.params h0.toNat h1.toNat v0.toNat v1.toNat = some r) :
    exec (.ltWindow k h0 h1 v0 v1) s = .next (s.refuse r) := by
  simp only [exec, execLtWindow, State.numLayers, layerOk_of_le hk hn, hr]
  rfl

theorem exec_ltWindowXywh {x y w h : BitVec 16} (he : ¬ (w = 0 ∨ h = 0)) : exec (.ltWindowXywh k x y w h) s =
    .next (s.beginActs (windowXywhActs k.toNat x.toNat y.toNat w.toNat h.toNat)) := by
  simp only [exec, execLtWindowXywh, State.numLayers, layerOk_of_le hk hn, he, if_false]
  rfl

theorem exec_ltWindowXywh_empty {x y w h : BitVec 16} (he : w = 0 ∨ h = 0) :
    exec (.ltWindowXywh k x y w h) s = .next (s.refuse .badOperand) := by
  simp only [exec, execLtWindowXywh, State.numLayers, layerOk_of_le hk hn, he, if_true]
  rfl

theorem exec_ltColorKey {fmt : Byte} {key : Word} (hf : boolOk fmt = true) (hu : u24Ok key = true)
    (ho : colorKeyOk fmt key = true) :
    exec (.ltColorKey k fmt key) s = .next (s.beginActs (colorKeyActs s.params k.toNat fmt key)) := by
  simp [exec, execLtColorKey, State.numLayers, layerOk_of_le hk hn, hf, hu, ho]

theorem exec_ltLineConfig {width lines : BitVec 16} {bpp : Byte} (hl : lineOk width.toNat bpp.toNat = true) :
    exec (.ltLineConfig k width bpp lines) s = .next (
      if lineFits s.params width.toNat bpp.toNat lines.toNat then
        s.beginActs (lineConfigActs s.params k.toNat width.toNat bpp.toNat lines.toNat)
      else s.refuse .fieldOverflow) := by
  simp only [exec, execLtLineConfig, State.numLayers, layerOk_of_le hk hn, hl]
  cases lineFits s.params width.toNat bpp.toNat lines.toNat <;> rfl

end

/-- A host step whose act stops, at any position. -/
theorem continueOp_standing_of_stop {s : State} {a : Act} {l : List HostStep} {r : Stop}
    (e : doAct a { s with ctx := { s.ctx with todo := l, setupStep := none } } = .stop r) :
    (s.standing (⟨a, none, none⟩ :: l)).continueOp = (s.standing (⟨a, none, none⟩ :: l)).mark r :=
  continueOp_of_stop rfl e

/-! ### LT_SET_TIMING, LT_WINDOW, LT_WINDOW_XYWH -/

/-- What the fields of a boundary register read, where the values fit (R273). -/
theorem boundary_get {p : Params} {q : PairPos} {h v : Nat}
    (hf : fieldsFit [q.high p.hFieldBits, q.low p.vFieldBits] = true) (hh : h < 2 ^ p.hFieldBits) (hv : v < 2 ^ p.vFieldBits) :
    (q.high p.hFieldBits).get (p.boundary q h v) = h ∧ (q.low p.vFieldBits).get (p.boundary q h v) = v :=
  pairWord_get hf hh hv

/-- Settles O44: a legal spec whose last boundaries fit is written (`made_setTiming`), and then so do the other boundaries
(`bounds_le`), which the fields therefore read back (`boundary_get`). -/
theorem setTimingResult : Obligations.SetTimingResult := by
  intro s d hsw hbp haw htot vsw vbp vaw vtot
  refine ⟨fun h => ?sync, fun hh hv h => ?overflow, fun hh hv fh fv => ?written⟩
  case sync =>
    have hs : timingSyncOk d = false := by rw [← Bool.not_eq_true, timingSyncOk_iff]; tauto
    simp [exec, execLtSetTiming, timingRefusal, hs]
  case overflow =>
    have hs := (timingSyncOk_iff d).2 ⟨hh, hv⟩
    have hf : timingFits s.params d = false := by
      rw [← Bool.not_eq_true, timingFits_iff]
      rintro ⟨h1, h2⟩
      exact h.elim h1.not_ge h2.not_ge
    simp [exec, execLtSetTiming, timingRefusal, hs, hf]
  case written =>
    refine ⟨_, exec_ltSetTiming ((timingSyncOk_iff d).2 ⟨hh, hv⟩) ((timingFits_iff s.params d).2 ⟨fh, fv⟩),
      beginActs_continueFor rfl (made_setTiming _ d) rfl, fun hp q h v hm => ?_⟩
    obtain ⟨h1, h2, h3⟩ := bounds_le d.hSync.toNat d.hBackPorch.toNat d.hActive.toNat d.hFrontPorch.toNat
    obtain ⟨v1, v2, v3⟩ := bounds_le d.vSync.toNat d.vBackPorch.toNat d.vActive.toNat d.vFrontPorch.toNat
    replace h3 := h3.trans_lt fh
    replace v3 := v3.trans_lt fv
    replace h2 := h2.trans_lt h3
    replace v2 := v2.trans_lt v3
    simp only [List.mem_cons, Prod.mk.injEq, List.not_mem_nil, or_false] at hm
    obtain ⟨rfl, rfl, rfl⟩ | ⟨rfl, rfl, rfl⟩ | ⟨rfl, rfl, rfl⟩ | ⟨rfl, rfl, rfl⟩ := hm
    · exact boundary_get (layoutOk_fits hp (r := .sscr) (by decide)) (h1.trans_lt h2) (v1.trans_lt v2)
    · exact boundary_get (layoutOk_fits hp (r := .bpcr) (by decide)) h2 v2
    · exact boundary_get (layoutOk_fits hp (r := .awcr) (by decide)) h3 v3
    · exact boundary_get (layoutOk_fits hp (r := .twcr) (by decide)) fh fv

/-- What the window registers read as, where the stops fit (R120). -/
theorem window_get {p : Params} (hp : p.layoutOk = true) {h0 h1 v0 v1 : Nat} (hh : h0 ≤ h1) (hv : v0 ≤ v1)
    (fh : h1 < 2 ^ p.hFieldBits) (fv : v1 < 2 ^ p.vFieldBits) :
    (p.regMap.fields.layer.whpcr.high p.hFieldBits).get (p.windowH h1 h0) = h1 ∧
    (p.regMap.fields.layer.whpcr.low p.hFieldBits).get (p.windowH h1 h0) = h0 ∧
    (p.regMap.fields.layer.wvpcr.high p.vFieldBits).get (p.windowV v1 v0) = v1 ∧
    (p.regMap.fields.layer.wvpcr.low p.vFieldBits).get (p.windowV v1 v0) = v0 := by
  obtain ⟨a, b⟩ := pairWord_get (layoutOk_fits hp (r := .layer 1 .whpcr) (by decide)) fh (hh.trans_lt fh)
  obtain ⟨c, d⟩ := pairWord_get (layoutOk_fits hp (r := .layer 1 .wvpcr) (by decide)) fv (hv.trans_lt fv)
  exact ⟨a, b, c, d⟩

theorem shadow_of_eq {t u : State} {k : Byte} {g : LayerRegs → LayerRegs} (hk : 1 ≤ k.toNat) (hn : k.toNat ≤ t.layers.length)
    (e : u = { t.withShadow k g with ctx := Ctx.idle }) : (u.layer k.toNat).shadow = g (t.layer k.toNat).shadow := by
  subst e
  exact congrArg Layer.shadow (layer_withShadow g hk hn)

/-- Settles O45: the checks of `windowRefusal`, then the two writes (`made_window`), which read back (`window_get`). -/
theorem windowResult : Obligations.WindowResult := by
  intro s k h0 h1 v0 v1 hk hn
  refine ⟨fun h => ?order, fun hh hv h => ?overflow, fun hh hv fh fv => ?written⟩
  case order => exact exec_ltWindow_refused hk hn (windowRefusal_badOperand h)
  case overflow => exact exec_ltWindow_refused hk hn (windowRefusal_fieldOverflow hh hv h)
  case written =>
    have hdone : (s.beginActs (windowActs s.params k.toNat h0.toNat h1.toNat v0.toNat v1.toNat)).continueFor 1 =
        { s.withShadow k fun l => { l with
            whpcr := s.params.windowH h1.toNat h0.toNat, wvpcr := s.params.windowV v1.toNat v0.toNat } with ctx := Ctx.idle } :=
      beginActs_continueFor rfl (made_window _ k h0.toNat h1.toNat v0.toNat v1.toNat) rfl
    refine ⟨_, exec_ltWindow hk hn (windowRefusal_eq_none hh hv fh fv), hdone, fun hp => ?_⟩
    intro q l
    rw [show l = _ from shadow_of_eq hk hn hdone]
    exact window_get hp hh hv fh fv

/-- LT_WINDOW_XYWH is refused at its second host step (R275). -/
theorem windowH_refused {t : State} (k : Byte) {x y w h : Nat} {r : Refusal} (acts : List Act)
    (hl : t.ctx.latch = t.bpcr) (hr : t.xywhRefusal x y w h = some r) :
    (t.standing (plainSteps (.windowH k.toNat x y w h :: acts))).continueFor 1 =
      (t.standing (plainSteps (.windowH k.toNat x y w h :: acts))).refuse r :=
  continueOp_standing_of_stop (l := plainSteps acts) (r := .refuse r)
    (doAct_windowH_refused (s := { t with ctx := { t.ctx with todo := plainSteps acts, setupStep := none } }) k hl hr)

/-- Settles O46: BPCR is read first (`made_windowXywh`), so the check at the second host step is against the porch it holds. -/
theorem windowXywhResult : Obligations.WindowXywhResult := by
  intro s k x y w h hk hn ahbp avbp
  refine ⟨fun he => ?empty, fun hw hh fh fv => ?written, fun hw hh ho => ?overflow⟩
  case empty => exact exec_ltWindowXywh_empty hk hn he
  all_goals
    have hw0 := ne_zero_iff_toNat_ne_zero.1 hw
    have hh0 := ne_zero_iff_toNat_ne_zero.1 hh
    have oh : ahbp + 1 + x.toNat ≤ ahbp + x.toNat + w.toNat := by omega
    have ov : avbp + 1 + y.toNat ≤ avbp + y.toNat + h.toNat := by omega
  case written =>
    have hr : s.xywhRefusal x.toNat y.toNat w.toNat h.toNat = none := windowRefusal_eq_none oh ov fh fv
    have hdone : (s.beginActs (windowXywhActs k.toNat x.toNat y.toNat w.toNat h.toNat)).continueFor 2 =
        { (s.regRead .bpcr).withShadow k (s.windowAt x.toNat y.toNat w.toNat h.toNat) with ctx := Ctx.idle } :=
      beginActs_continueFor rfl (made_windowXywh _ k hr) rfl
    refine ⟨_, exec_ltWindowXywh hk hn (not_or.2 ⟨hw, hh⟩), hdone, fun hp => ?_⟩
    intro q l
    rw [show l = _ from shadow_of_eq (t := s.regRead .bpcr) hk hn hdone]
    exact window_get hp oh ov fh fv
  case overflow =>
    have hr : s.xywhRefusal x.toNat y.toNat w.toNat h.toNat = some .fieldOverflow := windowRefusal_fieldOverflow oh ov ho
    refine ⟨_, exec_ltWindowXywh hk hn (not_or.2 ⟨hw, hh⟩), ?_⟩
    have hbegun : s.beginActs (windowXywhActs k.toNat x.toNat y.toNat w.toNat h.toNat) =
        State.standing (({ s with ctx := Ctx.idle }.regRead .bpcr).setLatch s.bpcr)
          (plainSteps [.windowH k.toNat x.toNat y.toNat w.toNat h.toNat, .windowV k.toNat y.toNat h.toNat]) :=
      beginActs_standing rfl rfl
    rw [hbegun]
    exact windowH_refused k _ rfl hr

/-! ### The operations that write one register -/

theorem lt_two_pow_of_width {p : Params} (hp : p.layoutOk = true) {f : BitField} {n v : Nat}
    (hf : (f, n) ∈ p.regMap.fields.fixedWidths) (hv : v < 2 ^ n) : v < 2 ^ f.width := by
  rwa [layoutOk_width hp hf]

/-- The channels of an RGB888 value with their fields (R119). -/
def colourParts (c : ColourFields) (rgb : Word) : List (BitField × Nat) :=
  [(c.blue, rgb.toNat % 256), (c.green, rgb.toNat / 256 % 256), (c.red, rgb.toNat / 65536 % 256)]

theorem colourWord_eq (c : ColourFields) (rgb : Word) : c.word rgb = putAll (colourParts c rgb) := by
  simp [ColourFields.word, colourParts, putAll, BitVec.extractLsb'_toNat, Nat.shiftRight_eq_div_pow, BitVec.or_assoc]

theorem colourParts_fit {p : Params} (hp : p.layoutOk = true) (rgb : Word) :
    PartsFit (colourParts p.regMap.fields.bccr rgb) := by
  refine ⟨layoutOk_fits hp (r := .bccr) (by decide), ?_⟩
  simp only [colourParts, List.forall_mem_cons]
  refine ⟨lt_two_pow_of_width hp (n := 8) ?_ (by omega), lt_two_pow_of_width hp (n := 8) ?_ (by omega),
    lt_two_pow_of_width hp (n := 8) ?_ (by omega), by simp⟩
  all_goals simp [FieldMap.fixedWidths, ColourFields.all]

/-- The blend factors with their fields. -/
theorem blendParts_fit {p : Params} (hp : p.layoutOk = true) {v u : Nat} (hv : v < 8) (hu : u < 8) :
    PartsFit [(p.regMap.fields.layer.bf2, u), (p.regMap.fields.layer.bf1, v)] := by
  refine ⟨layoutOk_fits hp (r := .layer 1 .bfcr) (by decide), ?_⟩
  simp only [List.forall_mem_cons]
  refine ⟨lt_two_pow_of_width hp (n := 3) ?_ hu, lt_two_pow_of_width hp (n := 3) ?_ hv, by simp⟩
  all_goals simp [FieldMap.fixedWidths]

/-- An operation of one act that is made (R10). -/
theorem beginActs_one {s t u : State} {a : Act} (ha : setupAct a = true) (h : made id [a] { s with ctx := Ctx.idle } = some t)
    (hu : { t with ctx := Ctx.idle } = u) : s.beginActs [a] = u :=
  beginActs_continueFor (by rw [List.all_cons, ha]; rfl) h hu

/-- Settles O47: each operation is one write, whose rule says what it leaves; the fields of the words are apart. -/
theorem singleWriteResults : Obligations.SingleWriteResults := by
  refine ⟨fun s rgb => ⟨fun h => ⟨?colour, fun hp => ?channels⟩, fun h => ?wide⟩, fun s k hk hn => ?layer⟩
  case colour =>
    have hu : u24Ok rgb = true := by simpa [u24Ok] using h
    simp only [exec, execLtBgcolor, hu]
    exact congrArg Host.Outcome.next (beginActs_one rfl (made_bgcolor _ rgb) rfl)
  case wide =>
    have hu : u24Ok rgb = false := by simpa [u24Ok] using h
    simp only [exec, execLtBgcolor, hu]
    rfl
  case channels =>
    intro w
    have hw : w = putAll (colourParts s.fields.bccr rgb) := colourWord_eq s.fields.bccr rgb
    have hfit := colourParts_fit hp rgb
    rw [hw]
    exact ⟨hfit.get (by simp [colourParts]), hfit.get (by simp [colourParts]), hfit.get (by simp [colourParts])⟩
  case layer =>
    have hl := layerOk_of_le hk hn
    intro m
    refine ⟨fun pf h => ?format, fun hp argb => ?default, fun a => ?alpha, fun bf1 bf2 h1 h2 => ?blend,
      fun bf1 bf2 h => ?illegal, fun hp addr => ?address, fun hp => ⟨fun v hv => ?readFormat, fun v hv => ?readAlpha,
        fun v hv u hu => ?readBlend⟩⟩
    case format =>
      have hu : u3Ok pf = true := by simpa [u3Ok] using h
      simp only [exec, execLtPixelFormat, State.numLayers, hl, hu]
      exact congrArg Host.Outcome.next (beginActs_one rfl (made_pixelFormat _ k pf) rfl)
    case default =>
      simp only [exec, execLtDefaultColor, State.numLayers, hl]
      exact congrArg Host.Outcome.next (beginActs_one rfl (made_defaultColor k (by exact hp) argb) rfl)
    case alpha =>
      simp only [exec, execLtConstAlpha, State.numLayers, hl]
      exact congrArg Host.Outcome.next (beginActs_one rfl (made_constAlpha _ k a) rfl)
    case blend =>
      have hb := (blendOk_iff bf1 bf2).2 ⟨h1, h2⟩
      obtain ⟨hu1, hu2⟩ := u3Ok_of_blendOk hb
      simp only [exec, execLtBlend, State.numLayers, hl, hb, hu1, hu2]
      exact congrArg Host.Outcome.next (beginActs_one rfl (made_blend _ k bf1 bf2) rfl)
    case illegal =>
      have hb : blendOk bf1 bf2 = false := by rw [← Bool.not_eq_true, blendOk_iff]; tauto
      simp [exec, execLtBlend, hb]
    case address =>
      simp only [exec, execLtFbAddr, State.numLayers, hl]
      exact congrArg Host.Outcome.next (beginActs_one rfl (made_fbAddr k (by exact hp) addr) rfl)
    case readFormat =>
      subst m
      exact BitField.get_put_of_lt _ v (fieldsFit_le (layoutOk_fits hp (r := .layer 1 .pfcr) (by decide)) List.mem_cons_self)
        (lt_two_pow_of_width hp (n := 3) (by simp [FieldMap.fixedWidths]) hv)
    case readAlpha =>
      subst m
      exact BitField.get_put_of_lt _ v (fieldsFit_le (layoutOk_fits hp (r := .layer 1 .cacr) (by decide)) List.mem_cons_self)
        (lt_two_pow_of_width hp (n := 8) (by simp [FieldMap.fixedWidths]) hv)
    case readBlend =>
      have hw : m.bf1.put v ||| m.bf2.put u = putAll [(m.bf2, u), (m.bf1, v)] := by simp [putAll, BitVec.or_comm]
      have hfit := blendParts_fit hp hv hu
      rw [hw]
      exact ⟨hfit.get (List.mem_cons_of_mem _ List.mem_cons_self), hfit.get List.mem_cons_self⟩

end Sys2Proof.Machine
end

section
/-! PROOFS, family 45_ltdc: the operations that modify GCR (R277, R291, R292), the operations of one layer that are more than
one write (R282, R283, R286), LT_RGB565_TO_888 (R285), the reload handshake (R287, R288) and the LTDC agent's steps (R289). -/

namespace Sys2Proof.Machine

/-! ### LT_POLARITY, LT_DITHER_ENABLE, LT_ENABLE -/

section
variable {p : Params} (hp : p.layoutOk = true)
include hp

/-- A flag of GCR that a RegModify sets is set. -/
theorem isSet_gcrWrite {f : BitField} {fs : List BitField} (hw : f ∈ p.regMap.fields.gcr.written) (hf : f ∈ fs)
    (old : Word) {v : Word} {b : Bool} (hv : f.get v = b.toNat) :
    f.isSet (gcrWrite p old ((old &&& ~~~fieldsMask fs) ||| (v &&& fieldsMask fs))) = b := by
  rw [BitField.isSet, get_gcrWrite_modified hp hw hf, hv]
  cases b <;> rfl

theorem get_put_gcr {f : BitField} (hw : f ∈ p.regMap.fields.gcr.written) : f.get (f.put 1) = 1 := by
  have hle := fieldsFit_le (gcr_fieldsFit hp) (List.mem_append_left _ hw)
  have h1 : f.width = 1 := layoutOk_width hp (by
    simp only [GcrFields.written, List.mem_cons, List.not_mem_nil, or_false] at hw
    rcases hw with rfl | rfl | rfl | rfl | rfl | rfl <;> simp [FieldMap.fixedWidths, GcrFields.written])
  exact f.get_put_of_lt 1 hle (by rw [h1]; decide)

/-- Fields of GCR at other places than the modified ones are kept. -/
theorem get_gcrWrite_places {I J : List Nat} (hd : ∀ i ∈ I, ∀ j ∈ J, i ≠ j) (old v : Word) :
    ∀ f ∈ I.filterMap ((p.fieldsOf .gcr)[·]?), f.get (gcrWrite p old
      ((old &&& ~~~fieldsMask (J.filterMap ((p.fieldsOf .gcr)[·]?))) |||
        (v &&& fieldsMask (J.filterMap ((p.fieldsOf .gcr)[·]?))))) = f.get old := by
  intro f hf
  obtain ⟨i, -, hi⟩ := List.mem_filterMap.1 hf
  exact get_gcrWrite_apart hp (List.mem_of_getElem? hi) (fieldsFit_apart_places (gcr_fieldsFit hp) hd f hf) old v

/-- The polarities that LT_POLARITY writes (R277). -/
theorem polarity_isSet (old : Word) (hs vs de pc : Bool) :
    let m := p.regMap.fields.gcr
    let g := gcrWrite p old ((old &&& ~~~m.polarityMask) ||| (m.polarity hs vs de pc &&& m.polarityMask))
    m.hspol.isSet g = hs ∧ m.vspol.isSet g = vs ∧ m.depol.isSet g = de ∧ m.pcpol.isSet g = pc := by
  intro m g
  have hfit := polarityParts_fit hp hs vs de pc
  have read {f : BitField} {b : Bool} (hm : (f, b.toNat) ∈ polarityParts p.regMap.fields.gcr hs vs de pc) :
      f.get (p.regMap.fields.gcr.polarity hs vs de pc) = b.toNat := by rw [polarity_eq, hfit.get hm]
  refine ⟨?_, ?_, ?_, ?_⟩
  all_goals
    refine isSet_gcrWrite hp ?_ ?_ old (read ?_)
    · simp [GcrFields.written, m]
    · simp [m]
    · simp [polarityParts, m]

end

theorem boolOk_setWidth_ofBool (b : Bool) : boolOk ((BitVec.ofBool b).setWidth 8) = true := by cases b <;> rfl

theorem boolOf_setWidth_ofBool (b : Bool) : boolOf ((BitVec.ofBool b).setWidth 8) = b := by cases b <;> rfl

/-- An operation that is a RegModify of GCR. -/
theorem beginActs_gcr (s : State) (m v : Word) : (s.beginActs [.read .gcr, .writeMod .gcr m v]).continueFor 1 =
    { s.regRead .gcr with gcr := s.gcrModified m v, ctx := Ctx.idle } :=
  beginActs_continueFor rfl (made_gcr _ m v) rfl

/-- An operation that sets one flag of GCR. -/
theorem beginActs_gcrFlag (s : State) (f : BitField) : (s.beginActs (setFieldActs .gcr f 1)).continueFor 1 =
    { s.regRead .gcr with gcr := s.gcrModified (fieldsMask [f]) (f.put 1), ctx := Ctx.idle } := by
  rw [fieldsMask_singleton]
  exact beginActs_gcr s f.mask (f.put 1)

/-- Settles O48: each is a RegModify of GCR (`beginActs_gcr`), which writes its own fields (`isSet_gcrWrite`) and keeps those
at other places of the register (`get_gcrWrite_places`). -/
theorem globalControlResults : Obligations.GlobalControlResults := by
  intro s hp m keeps
  refine ⟨fun hs vs de pc => ?polarity, ?dither, ?enable⟩
  case polarity =>
    intro bit
    have hexec : exec (.ltPolarity (bit hs) (bit vs) (bit de) (bit pc)) s = .next (s.beginActs
        [.read .gcr, .writeMod .gcr s.fields.gcr.polarityMask (s.fields.gcr.polarity hs vs de pc)]) := by
      simp only [bit, exec, execLtPolarity, polarityActs, boolOk_setWidth_ofBool, boolOf_setWidth_ofBool]
      rfl
    obtain ⟨h1, h2, h3, h4⟩ := polarity_isSet hp s.gcr hs vs de pc
    exact ⟨_, _, hexec, beginActs_gcr s _ _, h1, h2, h3, h4,
      get_gcrWrite_places hp (I := [0, 1, 6, 7, 8]) (J := [5, 4, 3, 2]) (by decide) s.gcr _, within_gcrWrite ..⟩
  case dither =>
    have hden : s.params.regMap.fields.gcr.den ∈ s.params.regMap.fields.gcr.written := by simp [GcrFields.written]
    exact ⟨_, _, rfl, beginActs_gcrFlag s _, isSet_gcrWrite hp hden List.mem_cons_self s.gcr (get_put_gcr hp hden),
      get_gcrWrite_places hp (I := [0, 6, 7, 8, 5, 4, 3, 2]) (J := [1]) (by decide) s.gcr _, within_gcrWrite ..⟩
  case enable =>
    have hen : s.params.regMap.fields.gcr.ltdcen ∈ s.params.regMap.fields.gcr.written := by simp [GcrFields.written]
    exact ⟨_, _, rfl, beginActs_gcrFlag s _, isSet_gcrWrite hp hen List.mem_cons_self s.gcr (get_put_gcr hp hen),
      get_gcrWrite_places hp (I := [1, 6, 7, 8, 5, 4, 3, 2]) (J := [0]) (by decide) s.gcr _, within_gcrWrite ..⟩

/-! ### LT_COLOR_KEY, LT_LINE_CONFIG, LT_LAYER_ENABLE -/

/-- LT_COLOR_KEY by itself. -/
theorem beginActs_colorKey (s : State) (k fmt : Byte) (key : Word) :
    (s.beginActs (colorKeyActs s.params k.toNat fmt key)).continueFor 2 =
      { ((s.keyed k fmt key).regRead (.layer k.toNat .cr)).withShadow k (withFlag s.params s.fields.layer.colken) with
        ctx := Ctx.idle } :=
  beginActs_continueFor rfl (made_colorKey _ k fmt key) rfl

/-- The two flags of LxCR: each is set by its operation, which keeps the other. -/
theorem layerFlags_get {p : Params} (hp : p.layoutOk = true) (w : Word) :
    p.regMap.fields.layer.len.isSet (setFlag (fieldsMask (p.layerFieldsOf .cr)) p.regMap.fields.layer.len w) = true ∧
    p.regMap.fields.layer.colken.get (setFlag (fieldsMask (p.layerFieldsOf .cr)) p.regMap.fields.layer.len w) =
      p.regMap.fields.layer.colken.get w ∧
    p.regMap.fields.layer.colken.isSet (setFlag (fieldsMask (p.layerFieldsOf .cr)) p.regMap.fields.layer.colken w) = true ∧
    p.regMap.fields.layer.len.get (setFlag (fieldsMask (p.layerFieldsOf .cr)) p.regMap.fields.layer.colken w) =
      p.regMap.fields.layer.len.get w := by
  have hfit : fieldsFit (p.layerFieldsOf .cr) = true := layoutOk_fits hp (r := .layer 1 .cr) (by decide)
  have mlen : p.regMap.fields.layer.len ∈ p.layerFieldsOf .cr := by simp [Params.layerFieldsOf]
  have mkey : p.regMap.fields.layer.colken ∈ p.layerFieldsOf .cr := by simp [Params.layerFieldsOf]
  have wlen : p.regMap.fields.layer.len.width = 1 := layoutOk_width hp (by simp [FieldMap.fixedWidths])
  have wkey : p.regMap.fields.layer.colken.width = 1 := layoutOk_width hp (by simp [FieldMap.fixedWidths])
  have ha : p.regMap.fields.layer.len.apart p.regMap.fields.layer.colken = true :=
    fieldsFit_apart_of_ne hfit (i := 0) (j := 1) (by decide) rfl rfl
  exact ⟨isSet_setFlag wlen (fieldsFit_le hfit mlen) _ w,
    get_setFlag_apart mkey (fieldsFit_le hfit mkey) (apart_symm ha) w,
    isSet_setFlag wkey (fieldsFit_le hfit mkey) _ w,
    get_setFlag_apart mlen (fieldsFit_le hfit mlen) ha w⟩

/-- Settles O49: the acts of each operation by its rule, its checks by what they say of the operands. -/
theorem layerConfigResults : Obligations.LayerConfigResults := by
  intro s k hk hn m set
  refine ⟨fun key h => ?rgb888, fun key h => ?rgb565, fun key h => ?wideKey, fun width lines bpp hw h1 h4 => ?line,
    fun width lines bpp h => ?noLine, ?enable, fun hp w => layerFlags_get hp w⟩
  case rgb888 =>
    have hu : u24Ok key = true := by simpa [u24Ok] using h
    exact ⟨_, exec_ltColorKey hk hn rfl hu rfl, beginActs_colorKey s k 0 key⟩
  case rgb565 =>
    have hu : u24Ok key = true := by simp only [u24Ok, decide_eq_true_eq]; omega
    have ho : colorKeyOk 1 key = true := by simpa [colorKeyOk, boolOf] using h
    exact ⟨_, exec_ltColorKey hk hn rfl hu ho, beginActs_colorKey s k 1 key⟩
  case wideKey =>
    have ho : colorKeyOk 1 key = false := by simpa [colorKeyOk, boolOf] using h
    simp only [exec, execLtColorKey, ho, Bool.and_false]
    rfl
  case line =>
    have hl : lineOk width.toNat bpp.toNat = true := lineOk_iff.2 ⟨ne_zero_iff_toNat_ne_zero.1 hw, h1, h4⟩
    intro len pitch
    refine ⟨fun f1 f2 f3 => ?_, fun hover => ?_⟩
    · have hf : lineFits s.params width.toNat bpp.toNat lines.toNat = true := lineFits_iff.2 ⟨f1, f2, f3⟩
      refine ⟨_, by rw [exec_ltLineConfig hk hn hl, if_pos hf], ?_⟩
      exact beginActs_continueFor rfl (made_lineConfig _ k width.toNat bpp.toNat lines.toNat) rfl
    · have hf : ¬ lineFits s.params width.toNat bpp.toNat lines.toNat = true := by
        rw [lineFits_iff]
        rintro ⟨f1, f2, f3⟩
        exact hover.elim f1.not_ge fun hover => hover.elim f2.not_ge f3.not_ge
      rw [exec_ltLineConfig hk hn hl, if_neg hf]
  case noLine =>
    have hl : lineOk width.toNat bpp.toNat = false := by
      rw [← Bool.not_eq_true, lineOk_iff, ← ne_zero_iff_toNat_ne_zero]
      rintro ⟨hw, h1, h4⟩
      exact h.elim hw fun h => by omega
    simp [exec, execLtLineConfig, hl]
  case enable =>
    have hexec : exec (.ltLayerEnable k) s = .next (s.beginActs (layerEnableActs s.fields k.toNat)) := by
      simp only [exec, execLtLayerEnable, State.numLayers, layerOk_of_le hk hn]
      rfl
    exact ⟨_, hexec, beginActs_continueFor rfl (made_layerEnable _ k) rfl⟩

/-! ### LT_RGB565_TO_888 -/

/-- A channel of at most `max` values is expanded to a byte (R285). -/
theorem normalize_lt {v max : Nat} (hv : v ≤ max) : v * 255 / max < 256 := by
  have hle : v * 255 / max ≤ 255 := Nat.div_le_of_le_mul (Nat.mul_le_mul_right 255 hv)
  omega

/-- Three channels of a byte each as one number (R119). -/
theorem channels_eq {r g b : Nat} (hr : r < 256) (hg : g < 256) (hb : b < 256) :
    (BitVec.ofNat 24 r <<< 16) ||| (BitVec.ofNat 24 g <<< 8) ||| BitVec.ofNat 24 b =
      BitVec.ofNat 24 (65536 * r + 256 * g + b) := by
  have hlow : g <<< 8 ||| b = 256 * g + b := by
    rw [← Nat.shiftLeft_add_eq_or_of_lt (i := 8) hb, Nat.shiftLeft_eq]; omega
  have hall : r <<< 16 ||| (256 * g + b) = 65536 * r + (256 * g + b) := by
    rw [← Nat.shiftLeft_add_eq_or_of_lt (i := 16) (by omega), Nat.shiftLeft_eq]; omega
  have mr : r <<< 16 % 2 ^ 24 = r <<< 16 := Nat.mod_eq_of_lt (by rw [Nat.shiftLeft_eq]; omega)
  have mg : g <<< 8 % 2 ^ 24 = g <<< 8 := Nat.mod_eq_of_lt (by rw [Nat.shiftLeft_eq]; omega)
  refine BitVec.eq_of_toNat_eq ?_
  rw [BitVec.toNat_or, BitVec.toNat_or, BitVec.toNat_shiftLeft, BitVec.toNat_shiftLeft, BitVec.toNat_ofNat, BitVec.toNat_ofNat,
    BitVec.toNat_ofNat, BitVec.toNat_ofNat, Nat.mod_eq_of_lt (a := r) (by omega), Nat.mod_eq_of_lt (a := g) (by omega),
    Nat.mod_eq_of_lt (a := b) (by omega), mr, mg, Nat.or_assoc, hlow, hall, Nat.mod_eq_of_lt (by omega), Nat.add_assoc]

/-- Settles O50: each field is at most 31 or 63, so its expansion is a byte, and the bytes stand side by side. -/
theorem rgb565Result : Obligations.Rgb565Result := by
  intro s c hn r g b
  have hr : r < 256 := normalize_lt (by omega)
  have hg : g < 256 := normalize_lt (by omega)
  have hb : b < 256 := normalize_lt (by omega)
  refine ⟨hr, hg, hb, ?_⟩
  have hword : rgb565To888 s.params c = BitVec.ofNat 24 (65536 * r + 256 * g + b) := by
    rw [← channels_eq hr hg hb]
    have hred : (c.extractLsb' 11 5).toNat = c.toNat / 2048 := by
      rw [BitVec.extractLsb'_toNat, Nat.shiftRight_eq_div_pow]; omega
    have hgreen : (c.extractLsb' 5 6).toNat = c.toNat / 32 % 64 := by
      rw [BitVec.extractLsb'_toNat, Nat.shiftRight_eq_div_pow]
    have hblue : (c.extractLsb' 0 5).toNat = c.toNat % 32 := by
      rw [BitVec.extractLsb'_toNat, Nat.shiftRight_zero]
    simp only [rgb565To888, hn, expandChannel, hred, hgreen, hblue, r, g, b]
  simp only [exec, execLtRgb565To888, hword]
  rfl

/-! ### LT_RELOAD, LT_READY -/

/-- The two flags of SRCR (R52). -/
theorem srcr_fieldsFit {p : Params} (hp : p.layoutOk = true) : fieldsFit [p.regMap.fields.imr, p.regMap.fields.vbr] = true :=
  layoutOk_fits hp (r := .srcr) (by decide)

/-- A flag that a write adds to a register is set. -/
theorem isSet_or_put {f : BitField} (hw : f.width = 1) (hle : f.pos + f.width ≤ 32) (w : Word) :
    f.isSet (w ||| f.put 1) = true := by
  rw [BitField.isSet, BitField.get_or, f.get_put_of_lt 1 hle (by rw [hw]; decide), bne_iff_ne]
  exact fun h => absurd (Nat.or_eq_zero_iff.1 h).2 (by decide)

theorem execLtReload_of_mode {s : State} {b : Byte} {mode : ReloadMode} (h : reloadModeOf b = some mode) :
    exec (.ltReload b) s = .next { s with srcr := s.srcr ||| reloadBit s.fields mode, ctx := Ctx.idle } := by
  simp only [exec, execLtReload, h]
  exact congrArg Host.Outcome.next (beginActs_one rfl (made_reload _ mode) rfl)

/-- Settles O51: the write that LT_RELOAD makes, by mode, and the flags that LT_READY reads. -/
theorem reloadHandshake : Obligations.ReloadHandshake := by
  intro s
  refine ⟨fun m => rfl, rfl, execLtReload_of_mode (mode := .immediate) rfl,
    execLtReload_of_mode (mode := .verticalBlank) rfl, fun m hm => ?mode, ?ready, fun hp w => ?flags⟩
  case mode =>
    have h0 : m ≠ 0 := by rintro rfl; exact absurd hm (by decide)
    have h1 : m ≠ 1 := by rintro rfl; exact absurd hm (by decide)
    simp only [exec, execLtReload, reloadModeOf, h0, h1, if_false]
  case ready =>
    have hready : s.reloadReady = (s.fields.imr.get s.srcr == 0 && s.fields.vbr.get s.srcr == 0) := by
      simp only [State.reloadReady, State.imr, State.vbr, BitField.isSet, bne, Bool.not_not]
    simp only [exec, execLtReady, hready]
    rfl
  case flags =>
    have hfit := srcr_fieldsFit hp
    have ha := fieldsFit_apart hfit List.mem_cons_self
    have wi : s.params.regMap.fields.imr.width = 1 := layoutOk_width hp (by simp [FieldMap.fixedWidths])
    have wv : s.params.regMap.fields.vbr.width = 1 := layoutOk_width hp (by simp [FieldMap.fixedWidths])
    exact ⟨isSet_or_put wi (fieldsFit_le hfit (by simp)) w, isSet_or_put wv (fieldsFit_le hfit (by simp)) w,
      BitField.get_or_put _ _ w 1 (apart_symm ha), BitField.get_or_put _ _ w 1 ha⟩

/-! ### The LTDC agent -/

section
variable {s : State}

theorem ltdcReloadStep_of_enabled (h : s.reloadEnabled = true) : s.ltdcReloadStep =
    { s with
      layers := activate s.layers
      srcr := s.srcr &&& ~~~s.fields.imr.mask
      ltdcLog := s.ltdcLog ++ [.reload .immediate s.cyccnt] } :=
  if_pos h

theorem ltdcVBlankStep_of_enabled (h : s.vblankEnabled = true) : s.ltdcVBlankStep =
    if s.vbr then
      { s with
        layers := activate s.layers
        srcr := s.srcr &&& ~~~s.fields.vbr.mask
        ltdcLog := s.ltdcLog ++ [.vblank s.cyccnt, .reload .verticalBlank s.cyccnt] }
    else { s with ltdcLog := s.ltdcLog ++ [.vblank s.cyccnt] } :=
  if_pos h

end

/-- Settles O52: a step is made under its guard and does nothing otherwise; the two flags of SRCR are apart. -/
theorem ltdcStepResults : Obligations.LtdcStepResults := by
  refine ⟨fun s hr => ?silent, fun s hr => ?responds, fun s w hp => ?flags⟩
  case silent =>
    exact ⟨ltdcReloadStep_of_disabled (by simp [State.reloadEnabled, hr]),
      ltdcVBlankStep_of_disabled (by simp [State.vblankEnabled, hr])⟩
  case responds =>
    have hreload : s.reloadEnabled = s.imr := by simp [State.reloadEnabled, hr]
    have hblank : s.vblankEnabled = s.ltdcEnabled := by simp [State.vblankEnabled, hr]
    refine ⟨fun hi => ltdcReloadStep_of_enabled (hreload.trans hi), fun he hv => ?_, fun he hv => ?_,
      fun hi => ltdcReloadStep_of_disabled (hreload.trans hi), fun he => ltdcVBlankStep_of_disabled (hblank.trans he)⟩
    · rw [ltdcVBlankStep_of_enabled (hblank.trans he), if_pos hv]
      rfl
    · rw [ltdcVBlankStep_of_enabled (hblank.trans he), if_neg (by simp [hv])]
  case flags =>
    have hfit := srcr_fieldsFit hp
    have ha := fieldsFit_apart hfit List.mem_cons_self
    have hi := fieldsFit_le hfit (f := s.params.regMap.fields.imr) (by simp)
    have hv := fieldsFit_le hfit (f := s.params.regMap.fields.vbr) (by simp)
    obtain ⟨ii, vi⟩ := get_clear hi hv (apart_symm ha) w
    obtain ⟨vv, iv⟩ := get_clear hv hi ha w
    exact ⟨ii, vi, vv, iv⟩

end Sys2Proof.Machine
end

section
/-! PROOFS, family 45_ltdc: the checks of LT_SETUP and its first host step (R300, R301). -/

namespace Sys2Proof.Machine

/-! ### What the checks say of the record -/

theorem bytesPerPixel_range (pf : Byte) : 1 ≤ bytesPerPixel pf ∧ bytesPerPixel pf ≤ 4 := by
  unfold bytesPerPixel
  split_ifs <;> decide

theorem distinctLayers_iff (ls : List LayerConfig) :
    distinctLayers ls = true ↔ ls.Pairwise (fun a b => a.layer ≠ b.layer) := by
  induction ls with
  | nil => exact iff_of_true rfl .nil
  | cons l ls ih =>
    simp only [distinctLayers, Bool.and_eq_true, List.all_eq_true, bne_iff_ne, ih, List.pairwise_cons]
    exact and_congr_left' (forall₂_congr fun _ _ => ne_comm)

theorem layerConfigOk_iff {n : Nat} {l : LayerConfig} : layerConfigOk n l = true ↔
    (1 ≤ l.layer.toNat ∧ l.layer.toNat ≤ n) ∧ l.pf.toNat < 8 ∧ u3Ok l.bf1 = true ∧ u3Ok l.bf2 = true ∧
      ∀ key, l.colorKey = some key → boolOk key.fmt = true ∧ u24Ok key.key = true := by
  cases hk : l.colorKey <;> simp [layerConfigOk, hk, layerOk, u3Ok, and_assoc]

theorem layerOperandsOk_iff {l : LayerConfig} : layerOperandsOk l = true ↔
    blendOk l.bf1 l.bf2 = true ∧ l.w ≠ 0 ∧ l.h ≠ 0 ∧ ∀ key, l.colorKey = some key → colorKeyOk key.fmt key.key = true := by
  have hline : l.w ≠ 0 → lineOk l.w.toNat (bytesPerPixel l.pf) = true :=
    fun hw => lineOk_iff.2 ⟨ne_zero_iff_toNat_ne_zero.1 hw, bytesPerPixel_range l.pf⟩
  cases hk : l.colorKey <;> simp [layerOperandsOk, hk, and_assoc] <;> tauto

theorem layerFits_iff {p : Params} {t : DisplayTimingSpec} {l : LayerConfig} : layerFits p t l = true ↔
    ((hBounds t).bp + l.x.toNat + l.w.toNat < 2 ^ p.hFieldBits ∧ (vBounds t).bp + l.y.toNat + l.h.toNat < 2 ^ p.vFieldBits) ∧
      lineFits p l.w.toNat (bytesPerPixel l.pf) l.h.toNat = true := by
  simp [layerFits, layerWindowFits]

theorem ltdcConfigOk_iff {n : Nat} {c : LtdcConfig} : ltdcConfigOk n c = true ↔
    c.bg.toNat < 2 ^ 24 ∧ (c.hs.toNat < 2 ∧ c.vs.toNat < 2 ∧ c.de.toNat < 2 ∧ c.pc.toNat < 2) ∧
      (c.layers ≠ [] ∧ c.layers.length ≤ n) ∧ (∀ l ∈ c.layers, layerConfigOk n l = true) ∧
      c.layers.Pairwise (fun a b => a.layer ≠ b.layer) := by
  simp [ltdcConfigOk, u24Ok, boolOk, distinctLayers_iff, and_assoc]

/-- The operands of a setup are legal (R301, log 15). -/
def SetupLegal (n : Nat) (c : LtdcConfig) : Prop :=
  ltdcConfigOk n c = true ∧ timingSyncOk c.timing = true ∧ ∀ l ∈ c.layers, layerOperandsOk l = true

/-- The values of a setup fit their fields (R301). -/
def SetupFits (p : Params) (c : LtdcConfig) : Prop :=
  timingFits p c.timing = true ∧ ∀ l ∈ c.layers, layerFits p c.timing l = true

section
variable {n : Nat} {p : Params} {c : LtdcConfig}

theorem not_setupLegal_iff :
    (!(ltdcConfigOk n c && timingSyncOk c.timing && c.layers.all layerOperandsOk)) = true ↔ ¬ SetupLegal n c := by
  rw [Bool.not_eq_true', ← Bool.not_eq_true, not_iff_not]
  simp [SetupLegal, and_assoc]

theorem not_setupFits_iff :
    (!(timingFits p c.timing && c.layers.all (layerFits p c.timing))) = true ↔ ¬ SetupFits p c := by
  rw [Bool.not_eq_true', ← Bool.not_eq_true, not_iff_not]
  simp [SetupFits]

theorem setupRefusal_of_illegal (h : ¬ SetupLegal n c) : setupRefusal n p c = some .badOperand :=
  if_pos (not_setupLegal_iff.2 h)

theorem setupRefusal_of_overflow (h : SetupLegal n c) (hf : ¬ SetupFits p c) : setupRefusal n p c = some .fieldOverflow :=
  (if_neg fun e => not_setupLegal_iff.1 e h).trans (if_pos (not_setupFits_iff.2 hf))

theorem setupRefusal_of_fits (h : SetupLegal n c) (hf : SetupFits p c) : setupRefusal n p c = none :=
  (if_neg fun e => not_setupLegal_iff.1 e h).trans (if_neg fun e => not_setupFits_iff.1 e hf)

theorem setupRefusal_eq_none_iff : setupRefusal n p c = none ↔ SetupLegal n c ∧ SetupFits p c := by
  refine ⟨fun h => ?_, fun ⟨hl, hf⟩ => setupRefusal_of_fits hl hf⟩
  by_cases hl : SetupLegal n c
  · by_cases hf : SetupFits p c
    · exact ⟨hl, hf⟩
    · rw [setupRefusal_of_overflow hl hf] at h; cases h
  · rw [setupRefusal_of_illegal hl] at h; cases h

end

/-! ### The first host step of LT_SETUP -/

/-- An LT_SETUP that passes its checks writes the background colour; the rest of its sub-operations are still to be made
(R300). -/
theorem exec_ltSetup {s : State} {c : LtdcConfig} (h : setupRefusal s.layers.length s.params c = none) :
    exec (.ltSetup c) s = .next (State.standing { s with bccr := s.fields.bccr.word c.bg, ctx := Ctx.idle }
      (numberedSteps 2 (setupOps s.params c).tail)) := by
  simp only [exec, execLtSetup, State.numLayers, h]
  refine congrArg Host.Outcome.next (beginSteps_standing rfl rfl ?_)
  exact doAct_write (regWrite_bccr (within_colourWord s.fields.bccr c.bg))

theorem exec_ltSetup_refused {s : State} {c : LtdcConfig} {r : Refusal} (h : setupRefusal s.layers.length s.params c = some r) :
    exec (.ltSetup c) s = .next (s.refuse r) := by
  simp only [exec, execLtSetup, State.numLayers, h]

/-! ### O55 -/

/-- A colour key of a legal format fits it. -/
theorem colourKey_legal {key : ColorKey}
    (h : key.fmt.toNat = 0 ∧ key.key.toNat < 2 ^ 24 ∨ key.fmt.toNat = 1 ∧ key.key.toNat < 2 ^ 16) :
    (boolOk key.fmt = true ∧ u24Ok key.key = true) ∧ colorKeyOk key.fmt key.key = true := by
  simp only [boolOk, u24Ok, colorKeyOk, Bool.or_eq_true, Bool.not_eq_true', decide_eq_true_eq]
  rcases h with ⟨h0, hk⟩ | ⟨h1, hk⟩
  · have hb : boolOf key.fmt = false := by
      rw [show key.fmt = 0 from BitVec.eq_of_toNat_eq h0]; rfl
    exact ⟨⟨by omega, by omega⟩, .inl hb⟩
  · exact ⟨⟨by omega, by omega⟩, .inr (by omega)⟩

theorem blendOk_of_toNat {bf1 bf2 : Byte} (h1 : bf1.toNat ∈ [4, 6]) (h2 : bf2.toNat ∈ [5, 7]) : blendOk bf1 bf2 = true := by
  rw [blendOk_iff]
  simp only [List.mem_cons, List.not_mem_nil, or_false] at h1 h2 ⊢
  exact ⟨h1.imp (BitVec.eq_of_toNat_eq ·) (BitVec.eq_of_toNat_eq ·), h2.imp (BitVec.eq_of_toNat_eq ·) (BitVec.eq_of_toNat_eq ·)⟩

/-- Settles O55: the operands that are illegal, and the values that do not fit, are those that `SetupLegal` and `SetupFits`
exclude; a setup that has both is not refused and takes its first host step (`exec_ltSetup`). -/
theorem setupRefusals : Obligations.SetupRefusals := by
  refine ⟨by decide, fun s c => ⟨?accepted, fun h => ?record, fun l hl h => ?operand, fun hnot => ⟨fun h => ?timing, fun l hl => ?value⟩⟩⟩
  case accepted =>
    intro n hbp vbp hbg hhs hvs hde hpc hne hlen hdis hsync hvsync fh fv hlayers
    have hlegal : SetupLegal n c := by
      refine ⟨ltdcConfigOk_iff.2 ⟨hbg, ⟨hhs, hvs, hde, hpc⟩, ⟨hne, hlen⟩, fun l hl => ?_, hdis⟩,
        (timingSyncOk_iff c.timing).2 ⟨hsync, hvsync⟩, fun l hl => ?_⟩
      all_goals obtain ⟨h1, hn, hpf, hb1, hb2, hw, hh, hkey, -⟩ := hlayers l hl
      · obtain ⟨u1, u2⟩ := u3Ok_of_blendOk (blendOk_of_toNat hb1 hb2)
        exact layerConfigOk_iff.2 ⟨⟨h1, hn⟩, hpf, u1, u2, fun key hk => (colourKey_legal (hkey key hk)).1⟩
      · exact layerOperandsOk_iff.2 ⟨blendOk_of_toNat hb1 hb2, hw, hh, fun key hk => (colourKey_legal (hkey key hk)).2⟩
    have hfits : SetupFits s.params c := by
      refine ⟨(timingFits_iff s.params c.timing).2 ⟨fh, fv⟩, fun l hl => ?_⟩
      obtain ⟨-, -, -, -, -, -, -, -, wh, wv, f1, f2, f3⟩ := hlayers l hl
      exact layerFits_iff.2 ⟨⟨wh, wv⟩, lineFits_iff.2 ⟨f1, f2, f3⟩⟩
    have hnone := setupRefusal_of_fits hlegal hfits
    exact ⟨hnone, _, exec_ltSetup hnone, List.cons_ne_nil _ _, rfl⟩
  case record =>
    refine exec_ltSetup_refused (setupRefusal_of_illegal ?_)
    rintro ⟨hc, ht, -⟩
    obtain ⟨-, -, ⟨hne, hlen⟩, -, hdis⟩ := ltdcConfigOk_iff.1 hc
    obtain ⟨hsync, hvsync⟩ := (timingSyncOk_iff c.timing).1 ht
    rcases h with h | h | h | h | h
    · exact hne h
    · exact h.not_ge hlen
    · rw [(distinctLayers_iff _).2 hdis] at h; cases h
    · exact hsync h
    · exact hvsync h
  case operand =>
    refine exec_ltSetup_refused (setupRefusal_of_illegal ?_)
    rintro ⟨-, -, ho⟩
    obtain ⟨hblend, hw, hh, hkey⟩ := layerOperandsOk_iff.1 (ho l hl)
    rcases h with h | h | h | ⟨key, hk, hfmt, hbig⟩
    · rw [hblend] at h; cases h
    · exact hw h
    · exact hh h
    · have h16 := hkey key hk
      rw [hfmt] at h16
      have h16 : key.key.toNat < 65536 := by simpa [colorKeyOk, boolOf] using h16
      omega
  all_goals
    have hlegal : SetupLegal s.layers.length c := not_not.1 fun h => hnot (setupRefusal_of_illegal h)
  case timing =>
    refine exec_ltSetup_refused (setupRefusal_of_overflow hlegal ?_)
    rintro ⟨hfit, -⟩
    obtain ⟨fh, fv⟩ := (timingFits_iff s.params c.timing).1 hfit
    exact h.elim fh.not_ge fv.not_ge
  case value =>
    intro len h
    refine exec_ltSetup_refused (setupRefusal_of_overflow hlegal ?_)
    rintro ⟨-, hfit⟩
    obtain ⟨⟨wh, wv⟩, hline⟩ := layerFits_iff.1 (hfit l hl)
    obtain ⟨f1, f2, f3⟩ := lineFits_iff.1 hline
    exact h.elim wh.not_ge fun h => h.elim wv.not_ge fun h => h.elim f1.not_ge fun h => h.elim f2.not_ge f3.not_ge

end Sys2Proof.Machine
end

section
/-! PROOFS, family 45_ltdc: what LT_SETUP leaves (R300, R302, R304), sub-operation by sub-operation. An LTDC operation is said
to show `q'` after `q` if it takes every state that displays `q` to one that displays `q'`, with the immediate reload free to
happen after each of its host steps; what a display leaves out (the reads made, the LTDC log, the position) no sub-operation
looks at. -/

namespace Sys2Proof.Machine

/-! ### Acts that request no reload -/

/-- An act of an LTDC operation that does not write SRCR. -/
def requestsNoReload : Act → Bool
  | .read _ => true
  | .writeMod r _ _ => r != .srcr
  | .write r _ => r != .srcr
  | .pollReload => true
  | .windowH _ _ _ _ _ => true
  | .windowV _ _ _ => true
  | _ => false

section
variable {s t : State}

theorem regWrite_reloadEnabled {r : Reg} {w : Word} (hr : r ≠ .srcr) (e : s.regWrite r w = .ok t) :
    t.reloadEnabled = s.reloadEnabled := by
  cases r with
  | srcr => exact absurd rfl hr
  | sdcmr =>
    simp only [State.regWrite, State.writeSdcmr] at e
    split at e
    · cases e; rfl
    · split at e <;> cases e
      rfl
  | ahb3rstr | sdcr1 | sdcr2 | sdtr1 | sdtr2 | sdrtr => cases e; split <;> rfl
  | _ => cases e; rfl

theorem writeAct_reloadEnabled {r : Reg} {w : Word} (hr : r ≠ .srcr) (e : writeAct s r w = .done t) :
    t.reloadEnabled = s.reloadEnabled := by
  unfold writeAct at e
  cases hw : s.regWrite r w with
  | error f => rw [hw] at e; cases e
  | ok u => rw [hw] at e; cases e; exact regWrite_reloadEnabled hr hw

theorem doAct_reloadEnabled {a : Act} (ha : requestsNoReload a = true) (e : doAct a s = .done t) :
    t.reloadEnabled = s.reloadEnabled := by
  cases a with
  | read r => cases e; rfl
  | writeMod r m v => exact writeAct_reloadEnabled (by simpa [requestsNoReload] using ha) e
  | write r w => exact writeAct_reloadEnabled (by simpa [requestsNoReload] using ha) e
  | pollReload =>
    cases hr : s.reloadReady with
    | true => rw [doAct_pollReload_of_ready hr] at e; cases e; rfl
    | false => rw [doAct_pollReload_of_pending hr] at e; cases e
  | windowH n x y w h =>
    simp only [doAct] at e
    split at e
    · cases e
    · exact writeAct_reloadEnabled (by simp) e
  | windowV n y h => exact writeAct_reloadEnabled (r := .layer n .wvpcr) (by simp) e
  | _ => cases ha

/-- Where no reload is pending and none is requested, the immediate reload never happens. -/
theorem made_reloadStep_of_made {acts : List Act} (ha : acts.all requestsNoReload = true) (hs : s.reloadEnabled = false)
    (h : made id acts s = some t) : made State.ltdcReloadStep acts s = some t := by
  induction acts generalizing s with
  | nil => exact h
  | cons a acts ih =>
    obtain ⟨ha, hacts⟩ := Bool.and_eq_true_iff.1 ha
    obtain ⟨u, e, h⟩ := made_cons_eq_some h
    have hu : u.reloadEnabled = false := (doAct_reloadEnabled ha e).trans hs
    rw [made_of_done e, ltdcReloadStep_of_disabled hu]
    exact ih hacts hu h

end

/-! ### What a state displays -/

/-- The state without the reads made, the LTDC log and the position. -/
def State.display (s : State) : State := { s with lastRead := none, draws := 0, ltdcLog := [], ctx := Ctx.idle }

/-- The acts take every state that displays `q` to one that displays `q'`. -/
def Shows (acts : List Act) (q q' : State) : Prop :=
  ∀ s : State, s.display = q → ∃ t, made State.ltdcReloadStep acts s = some t ∧ t.display = q'

section
variable {q q' q'' : State} {acts more : List Act}

theorem Shows.nil : Shows [] q q := fun s hs => ⟨s, rfl, hs⟩

theorem Shows.append (h : Shows acts q q') (h' : Shows more q' q'') : Shows (acts ++ more) q q'' := by
  intro s hs
  obtain ⟨t, e, ht⟩ := h s hs
  obtain ⟨u, e', hu⟩ := h' t ht
  exact ⟨u, (made_append e).trans e', hu⟩

theorem reloadEnabled_of_srcr {s : State} (h : s.srcr = 0) : s.reloadEnabled = false := by
  simp [State.reloadEnabled, State.imr, BitField.isSet, h, BitField.get]

theorem reloadReady_of_srcr {s : State} (h : s.srcr = 0) : s.reloadReady = true := by
  simp [State.reloadReady, State.imr, State.vbr, BitField.isSet, h, BitField.get]

/-- The rule of an operation that requests no reload, where none is pending. -/
theorem Shows.of_made (hq : q.srcr = 0) (ha : acts.all requestsNoReload = true)
    (h : ∀ s : State, s.display = q → ∃ t, made id acts s = some t ∧ t.display = q') : Shows acts q q' := by
  intro s hs
  obtain ⟨t, e, ht⟩ := h s hs
  have hs0 : s.srcr = 0 := (congrArg State.srcr hs).trans hq
  exact ⟨t, made_reloadStep_of_made ha (reloadEnabled_of_srcr hs0) e, ht⟩

end

/-! ### The global sub-operations -/

section
variable {q : State} (hq : q.srcr = 0)
include hq

theorem shows_gcr (m v : Word) : Shows [.read .gcr, .writeMod .gcr m v] q { q with gcr := q.gcrModified m v } :=
  .of_made hq rfl fun s hs => ⟨_, made_gcr s m v, by subst hs; rfl⟩

theorem shows_setTiming (t : DisplayTimingSpec) : Shows (setTimingActs q.params t) q (q.timed t) :=
  .of_made hq rfl fun s hs => by
    subst hs
    exact ⟨_, made_setTiming s t, rfl⟩

theorem shows_poll : Shows [.pollReload] q q := by
  refine .of_made hq rfl fun s hs => ⟨_, made_of_done (doAct_pollReload_of_ready (reloadReady_of_srcr ?_)), ?_⟩
  · exact (congrArg State.srcr hs).trans hq
  · subst hs; rfl

/-- The request of an immediate reload, which the LTDC answers after it (R287, R289), and the poll after it (R290). -/
theorem shows_reload (hr : q.params.ltdcResponds = true) (hp : q.params.layoutOk = true) :
    Shows (reloadActs q.fields .immediate ++ [.pollReload]) q { q with layers := activate q.layers } := by
  refine Shows.append (q' := { q with layers := activate q.layers }) ?_ (shows_poll hq)
  rintro s rfl
  have hsrcr : s.srcr = 0 := hq
  have wi : s.params.regMap.fields.imr.width = 1 := layoutOk_width hp (by simp [FieldMap.fixedWidths, State.display])
  have hle := fieldsFit_le (srcr_fieldsFit hp) List.mem_cons_self
  have hset : ({ s with srcr := s.srcr ||| s.params.regMap.fields.imr.put 1 } : State).reloadEnabled = true :=
    Bool.and_eq_true_iff.2 ⟨hr, isSet_or_put wi hle s.srcr⟩
  have hclear : (s.srcr ||| s.params.regMap.fields.imr.put 1) &&& ~~~s.params.regMap.fields.imr.mask = 0 := by
    have hput : s.params.regMap.fields.imr.put 1 &&& ~~~s.params.regMap.fields.imr.mask = 0 := by
      rw [← BitField.put_and_mask, BitVec.and_assoc, BitVec.and_not_self]
      exact BitVec.and_zero
    rw [hsrcr]
    exact (congrArg (· &&& _) BitVec.zero_or).trans hput
  obtain ⟨t, e, he⟩ := made_cons_eq_some (made_reload s .immediate)
  cases he
  refine ⟨_, made_of_done e, ?_⟩
  rw [show reloadBit s.fields .immediate = s.params.regMap.fields.imr.put 1 from rfl, ltdcReloadStep_of_enabled hset]
  show ({ s.display with layers := _, srcr := _ } : State) = _
  rw [State.fields, hclear, ← hsrcr]
  rfl

end

/-! ### The sub-operations of one layer -/

theorem withShadow_id (s : State) (k : Byte) : s.withShadow k (fun l => l) = s := by
  have h : s.layers.set (k.toNat - 1) (s.layer k.toNat) = s.layers := by
    by_cases hk : k.toNat - 1 < s.layers.length
    · simp [State.layer, hk]
    · exact List.set_eq_of_length_le (Nat.le_of_not_lt hk)
  exact congrArg (fun ls => ({ s with layers := ls } : State)) h

/-- The acts make `f` of layer `k`'s shadow copy, wherever the parameters are `p`, BPCR is `b` and no reload is pending. -/
def Configures (p : Params) (b : Word) (acts : List Act) (k : Byte) (f : LayerRegs → LayerRegs) : Prop :=
  ∀ q : State, q.params = p → q.srcr = 0 → q.bpcr = b → Shows acts q (q.withShadow k f)

section
variable {p : Params} {b : Word} {k : Byte} {acts more : List Act} {f g : LayerRegs → LayerRegs}

theorem Configures.nil : Configures p b [] k fun l => l := fun q _ _ _ => by
  rw [withShadow_id]
  exact .nil

theorem Configures.append (h : Configures p b acts k f) (h' : Configures p b more k g) :
    Configures p b (acts ++ more) k fun l => g (f l) := by
  intro q hp hs hb
  rw [← withShadow_withShadow]
  exact (h q hp hs hb).append (h' (q.withShadow k f) hp hs hb)

/-- An operation of one layer whose rule says what it makes of the shadow copy. -/
theorem Configures.of_made (ha : acts.all requestsNoReload = true)
    (h : ∀ s : State, s.params = p → s.bpcr = b → ∃ t, made id acts s = some t ∧ t.display = s.display.withShadow k f) :
    Configures p b acts k f := by
  intro q hp hs hb
  refine .of_made hs ha ?_
  rintro s rfl
  exact h s hp hb

end

section
variable (p : Params) (b : Word) (k : Byte)

theorem configures_pixelFormat (pf : Byte) : Configures p b (pixelFormatActs p.regMap.fields k.toNat pf) k
    fun l => { l with pfcr := p.regMap.fields.layer.pf.put pf.toNat } :=
  .of_made rfl fun s hs _ => by subst hs; exact ⟨_, made_pixelFormat s k pf, rfl⟩

theorem configures_constAlpha (a : Byte) : Configures p b (constAlphaActs p.regMap.fields k.toNat a) k
    fun l => { l with cacr := p.regMap.fields.layer.consta.put a.toNat } :=
  .of_made rfl fun s hs _ => by subst hs; exact ⟨_, made_constAlpha s k a, rfl⟩

theorem configures_blend (bf1 bf2 : Byte) : Configures p b (blendActs p.regMap.fields k.toNat bf1 bf2) k
    fun l => { l with bfcr := blendWord p.regMap.fields bf1 bf2 } :=
  .of_made rfl fun s hs _ => by subst hs; exact ⟨_, made_blend s k bf1 bf2, rfl⟩

theorem configures_lineConfig (width bpp lines : Nat) : Configures p b (lineConfigActs p k.toNat width bpp lines) k
    fun l => { l with
      cfblr := p.regMap.fields.layer.lineWord (linePitch (lineBytes width bpp)) (lineBytes width bpp + p.cfbllBias)
      cfblnr := p.regMap.fields.layer.cfblnbr.put lines } :=
  .of_made rfl fun s hs _ => by subst hs; exact ⟨_, made_lineConfig s k width bpp lines, rfl⟩

theorem configures_layerEnable : Configures p b (layerEnableActs p.regMap.fields k.toNat) k
    (withFlag p p.regMap.fields.layer.len) :=
  .of_made rfl fun s hs _ => by subst hs; exact ⟨_, made_layerEnable s k, rfl⟩

/-- The colour key is written and its flag set (R282). -/
def withKey (fmt : Byte) (key : Word) (l : LayerRegs) : LayerRegs :=
  withFlag p p.regMap.fields.layer.colken { l with ckcr := p.regMap.fields.layer.ckcr.word (colorKey888 p fmt key) }

theorem configures_colorKey (fmt : Byte) (key : Word) :
    Configures p b (colorKeyActs p k.toNat fmt key) k (withKey p fmt key) :=
  .of_made rfl fun s hs _ => by
    subst hs
    exact ⟨_, made_colorKey s k fmt key, withShadow_withShadow s.display k
      (fun l => { l with ckcr := s.fields.layer.ckcr.word (colorKey888 s.params fmt key) })
      (withFlag s.params s.fields.layer.colken)⟩

variable {p}

theorem configures_defaultColor (hp : p.layoutOk = true) (argb : Word) : Configures p b (defaultColorActs k.toNat argb) k
    fun l => { l with dccr := argb } :=
  .of_made rfl fun s hs _ => by subst hs; exact ⟨_, made_defaultColor k hp argb, rfl⟩

theorem configures_fbAddr (hp : p.layoutOk = true) (addr : Word) : Configures p b (fbAddrActs k.toNat addr) k
    fun l => { l with cfbar := addr } :=
  .of_made rfl fun s hs _ => by subst hs; exact ⟨_, made_fbAddr k hp addr, rfl⟩

variable {b}

/-- The window from the porch that BPCR holds, where it is not empty and fits (R275). -/
theorem configures_windowXywh {hbp vbp x y w h : Nat}
    (hb : (p.regMap.fields.bpcr.high p.hFieldBits).get b = hbp ∧ (p.regMap.fields.bpcr.low p.vFieldBits).get b = vbp)
    (hw : w ≠ 0) (hh : h ≠ 0) (fh : hbp + x + w < 2 ^ p.hFieldBits) (fv : vbp + y + h < 2 ^ p.vFieldBits) :
    Configures p b (windowXywhActs k.toNat x y w h) k fun l => { l with
      whpcr := p.windowH (hbp + x + w) (hbp + 1 + x), wvpcr := p.windowV (vbp + y + h) (vbp + 1 + y) } :=
  .of_made rfl fun s hs hsb => by
    subst hs hsb
    obtain ⟨rfl, rfl⟩ := hb
    have hr : s.xywhRefusal x y w h = none := windowRefusal_eq_none (by omega) (by omega) fh fv
    exact ⟨_, made_windowXywh s k hr, rfl⟩

end

/-! ### The layers one after another -/

/-- The shadow copies of the configured layers, each changed by its `F`. -/
def shadowed (F : LayerConfig → LayerRegs → LayerRegs) (ls : List LayerConfig) (q : State) : State :=
  ls.foldl (fun q l => q.withShadow l.layer (F l)) q

section
variable {F : LayerConfig → LayerRegs → LayerRegs}

/-- Nothing but the shadow copies changes. -/
theorem shadowed_eq (ls : List LayerConfig) (q : State) : shadowed F ls q = { q with layers := (shadowed F ls q).layers } := by
  induction ls generalizing q with
  | nil => rfl
  | cons l ls ih => exact ih (q.withShadow l.layer (F l))

theorem shadowed_length (ls : List LayerConfig) (q : State) : (shadowed F ls q).layers.length = q.layers.length := by
  induction ls generalizing q with
  | nil => rfl
  | cons l ls ih => exact (ih (q.withShadow l.layer (F l))).trans (layers_length_withShadow q l.layer (F l))

/-- A layer that is not in the list is kept. -/
theorem layer_shadowed_of_not_mem {ls : List LayerConfig} {k : Byte} (h1 : ∀ l ∈ ls, 1 ≤ l.layer.toNat) (hk : 1 ≤ k.toNat)
    (hne : ∀ l ∈ ls, l.layer ≠ k) (q : State) : (shadowed F ls q).layer k.toNat = q.layer k.toNat := by
  induction ls generalizing q with
  | nil => rfl
  | cons l ls ih =>
    obtain ⟨hl, h1⟩ := List.forall_mem_cons.1 h1
    obtain ⟨hlk, hne⟩ := List.forall_mem_cons.1 hne
    exact (ih h1 hne _).trans (layer_withShadow_of_ne (F l) hl hk hlk)

/-- Each layer of the list is changed by its own `F`. -/
theorem layer_shadowed_of_mem {ls : List LayerConfig} {q : State}
    (hr : ∀ l ∈ ls, 1 ≤ l.layer.toNat ∧ l.layer.toNat ≤ q.layers.length) (hd : ls.Pairwise (fun a b => a.layer ≠ b.layer))
    {l : LayerConfig} (hl : l ∈ ls) : (shadowed F ls q).layer l.layer.toNat =
      { q.layer l.layer.toNat with shadow := F l (q.layer l.layer.toNat).shadow } := by
  induction ls generalizing q with
  | nil => cases hl
  | cons a ls ih =>
    obtain ⟨ha, hrest⟩ := List.forall_mem_cons.1 hr
    obtain ⟨hne, hdis⟩ := List.pairwise_cons.1 hd
    rcases List.mem_cons.1 hl with rfl | hl
    · exact (layer_shadowed_of_not_mem (ls := ls) (fun m hm => (hrest m hm).1) ha.1 (fun m hm => (hne m hm).symm) _).trans
        (layer_withShadow (F l) ha.1 ha.2)
    · have hkeep : (q.withShadow a.layer (F a)).layer l.layer.toNat = q.layer l.layer.toNat :=
        layer_withShadow_of_ne (F a) ha.1 (hrest l hl).1 (hne l hl)
      have hlen := layers_length_withShadow q a.layer (F a)
      rw [← hkeep]
      exact ih (fun m hm => by rw [hlen]; exact hrest m hm) hdis hl

/-- The sub-operations of the layers, each layer's own configuring its shadow copy. -/
theorem shows_layers {p : Params} {b : Word} {A : LayerConfig → List Act} {ls : List LayerConfig}
    (h : ∀ l ∈ ls, Configures p b (A l) l.layer (F l)) {q : State} (hp : q.params = p) (hs : q.srcr = 0) (hb : q.bpcr = b) :
    Shows (ls.flatMap A) q (shadowed F ls q) := by
  induction ls generalizing q with
  | nil => exact .nil
  | cons l ls ih =>
    obtain ⟨hl, h⟩ := List.forall_mem_cons.1 h
    exact (hl q hp hs hb).append (ih h hp hs hb)

end

end Sys2Proof.Machine
end

section
/-! PROOFS, family 45_ltdc: the end state of LT_SETUP (R304). -/

namespace Sys2Proof.Machine

/-! ### One layer -/

/-- The colour key of a layer, if it has one (R300). -/
def withKey? (p : Params) : Option ColorKey → LayerRegs → LayerRegs
  | none, r => r
  | some key, r => withKey p key.fmt key.key r

/-- The framebuffer address of a layer, if it has one (R300). -/
def withAddr? : Option Word → LayerRegs → LayerRegs
  | none, r => r
  | some addr, r => { r with cfbar := addr }

/-- The shadow copy of a layer after its sub-operations (R300, R304). -/
def configured (p : Params) (t : DisplayTimingSpec) (l : LayerConfig) (r : LayerRegs) : LayerRegs :=
  { r with
    cr := (withKey? p l.colorKey r).cr
    ckcr := (withKey? p l.colorKey r).ckcr
    pfcr := p.regMap.fields.layer.pf.put l.pf.toNat
    dccr := l.defaultColor
    cacr := p.regMap.fields.layer.consta.put l.constAlpha.toNat
    bfcr := blendWord p.regMap.fields l.bf1 l.bf2
    whpcr := p.windowH ((hBounds t).bp + l.x.toNat + l.w.toNat) ((hBounds t).bp + 1 + l.x.toNat)
    wvpcr := p.windowV ((vBounds t).bp + l.y.toNat + l.h.toNat) ((vBounds t).bp + 1 + l.y.toNat)
    cfbar := (withAddr? l.fbAddr r).cfbar
    cfblr := p.regMap.fields.layer.lineWord (linePitch (lineBytes l.w.toNat (bytesPerPixel l.pf)))
      (lineBytes l.w.toNat (bytesPerPixel l.pf) + p.cfbllBias)
    cfblnr := p.regMap.fields.layer.cfblnbr.put l.h.toNat }

/-- BPCR as the setup's timing leaves it (R272). -/
def setupPorch (p : Params) (t : DisplayTimingSpec) : Word :=
  p.boundary p.regMap.fields.bpcr (hBounds t).bp (vBounds t).bp

theorem layerSetup_flatten (p : Params) (l : LayerConfig) : (layerSetup p l).flatten =
    pixelFormatActs p.regMap.fields l.layer.toNat l.pf ++ defaultColorActs l.layer.toNat l.defaultColor ++
    constAlphaActs p.regMap.fields l.layer.toNat l.constAlpha ++ blendActs p.regMap.fields l.layer.toNat l.bf1 l.bf2 ++
    l.colorKey.elim [] (fun key => colorKeyActs p l.layer.toNat key.fmt key.key) ++
    windowXywhActs l.layer.toNat l.x.toNat l.y.toNat l.w.toNat l.h.toNat ++
    lineConfigActs p l.layer.toNat l.w.toNat (bytesPerPixel l.pf) l.h.toNat ++ l.fbAddr.elim [] (fbAddrActs l.layer.toNat) := by
  unfold layerSetup
  cases l.colorKey <;> cases l.fbAddr <;> simp

section
variable {p : Params} {t : DisplayTimingSpec} {l : LayerConfig}

/-- The porch that the layers' windows are placed from (R275). -/
theorem setupPorch_get (hp : p.layoutOk = true) (ht : timingFits p t = true) :
    (p.regMap.fields.bpcr.high p.hFieldBits).get (setupPorch p t) = (hBounds t).bp ∧
    (p.regMap.fields.bpcr.low p.vFieldBits).get (setupPorch p t) = (vBounds t).bp := by
  obtain ⟨fh, fv⟩ := (timingFits_iff p t).1 ht
  obtain ⟨-, h2, h3⟩ := bounds_le t.hSync.toNat t.hBackPorch.toNat t.hActive.toNat t.hFrontPorch.toNat
  obtain ⟨-, v2, v3⟩ := bounds_le t.vSync.toNat t.vBackPorch.toNat t.vActive.toNat t.vFrontPorch.toNat
  exact boundary_get (layoutOk_fits hp (r := .bpcr) (by decide)) ((h2.trans h3).trans_lt fh) ((v2.trans v3).trans_lt fv)

/-- The sub-operations of one layer, where its operands are legal and its values fit. -/
theorem configures_layerSetup (hp : p.layoutOk = true) (ht : timingFits p t = true) (ho : layerOperandsOk l = true)
    (hf : layerFits p t l = true) :
    Configures p (setupPorch p t) (layerSetup p l).flatten l.layer (configured p t l) := by
  obtain ⟨-, hw, hh, -⟩ := layerOperandsOk_iff.1 ho
  obtain ⟨⟨fh, fv⟩, -⟩ := layerFits_iff.1 hf
  have hkey : Configures p (setupPorch p t) (l.colorKey.elim [] fun key => colorKeyActs p l.layer.toNat key.fmt key.key) l.layer
      (withKey? p l.colorKey) := by
    cases l.colorKey with
    | none => exact .nil
    | some key => exact configures_colorKey p _ l.layer key.fmt key.key
  have haddr : Configures p (setupPorch p t) (l.fbAddr.elim [] (fbAddrActs l.layer.toNat)) l.layer (withAddr? l.fbAddr) := by
    cases l.fbAddr with
    | none => exact .nil
    | some addr => exact configures_fbAddr _ l.layer hp addr
  have hwindow := configures_windowXywh l.layer (setupPorch_get hp ht) (ne_zero_iff_toNat_ne_zero.1 hw)
    (ne_zero_iff_toNat_ne_zero.1 hh) fh fv
  have hall := (((((((configures_pixelFormat p _ l.layer l.pf).append
    (configures_defaultColor _ l.layer hp l.defaultColor)).append (configures_constAlpha p _ l.layer l.constAlpha)).append
    (configures_blend p _ l.layer l.bf1 l.bf2)).append hkey).append hwindow).append
    (configures_lineConfig p _ l.layer l.w.toNat (bytesPerPixel l.pf) l.h.toNat)).append haddr
  rw [layerSetup_flatten]
  refine cast (congrArg (Configures _ _ _ _) (funext fun r => ?_)) hall
  unfold configured
  cases l.colorKey <;> cases l.fbAddr <;> rfl

end

/-! ### The stages of LT_SETUP (R300) -/

/-- GCR after a RegModify that sets one flag. -/
def gcrFlagged (p : Params) (f : BitField) (g : Word) : Word :=
  gcrWrite p g ((g &&& ~~~fieldsMask [f]) ||| (f.put 1 &&& fieldsMask [f]))

/-- The polarities of the setup (R277). -/
def setupPolarity (m : FieldMap) (c : LtdcConfig) : Word :=
  m.gcr.polarity (boolOf c.hs) (boolOf c.vs) (boolOf c.de) (boolOf c.pc)

section
variable (q : State) (c : LtdcConfig)

/-- The state once the timing is written, with GCR at `g` and the layers at `ls`. -/
def State.staged (g : Word) (ls : List Layer) : State := { q.timed c.timing with gcr := g, layers := ls }

/-- GCR with the polarities of the setup. -/
def State.setupGcr : Word := q.gcrModified q.fields.gcr.polarityMask (setupPolarity q.fields c)

/-- The layers, configured. -/
def State.configuredLayers : List Layer :=
  (shadowed (configured q.params c.timing) c.layers (q.staged c (q.setupGcr c) q.layers)).layers

/-- The layers after the first reload, those that have a framebuffer address enabled. -/
def State.enabledLayers : List Layer :=
  (shadowed (fun _ => withFlag q.params q.fields.layer.len) (c.layers.filter fun l => l.fbAddr.isSome)
    (q.staged c (q.setupGcr c) (activate (q.configuredLayers c)))).layers

/-- The state after all sub-operations but the first. -/
def State.setupEnd : State :=
  q.staged c (gcrFlagged q.params q.fields.gcr.ltdcen (gcrFlagged q.params q.fields.gcr.den (q.setupGcr c)))
    (activate (q.enabledLayers c))

variable {q} (g : Word) (ls : List Layer)

theorem staged_params : (q.staged c g ls).params = q.params := rfl

theorem staged_srcr : (q.staged c g ls).srcr = q.srcr := rfl

theorem staged_bpcr : (q.staged c g ls).bpcr = setupPorch q.params c.timing := rfl

variable (hq : q.srcr = 0)
include hq

theorem shows_polarity : Shows (polarityActs q.fields c.hs c.vs c.de c.pc) q { q with gcr := q.setupGcr c } := shows_gcr hq _ _

theorem shows_staged : Shows (setTimingActs q.params c.timing) { q with gcr := g } (q.staged c g q.layers) :=
  shows_setTiming (q := { q with gcr := g }) hq c.timing

theorem shows_staged_flag (f : BitField) :
    Shows (setFieldActs .gcr f 1) (q.staged c g ls) (q.staged c (gcrFlagged q.params f g) ls) := by
  rw [gcrFlagged, fieldsMask_singleton]
  exact shows_gcr ((staged_srcr c g ls).trans hq) f.mask (f.put 1)

theorem shows_staged_reload (hr : q.params.ltdcResponds = true) (hp : q.params.layoutOk = true) :
    Shows (reloadActs q.fields .immediate ++ [.pollReload]) (q.staged c g ls) (q.staged c g (activate ls)) :=
  shows_reload (q := q.staged c g ls) ((staged_srcr c g ls).trans hq) hr hp

theorem shows_staged_layers {A : LayerConfig → List Act} {F : LayerConfig → LayerRegs → LayerRegs} {l : List LayerConfig}
    (h : ∀ a ∈ l, Configures q.params (setupPorch q.params c.timing) (A a) a.layer (F a)) :
    Shows (l.flatMap A) (q.staged c g ls) (q.staged c g (shadowed F l (q.staged c g ls)).layers) := by
  have hshadow : shadowed F l (q.staged c g ls) = q.staged c g (shadowed F l (q.staged c g ls)).layers := shadowed_eq l _
  rw [← hshadow]
  exact shows_layers h (staged_params c g ls) ((staged_srcr c g ls).trans hq) (staged_bpcr c g ls)

end

theorem setupOps_tail_flatten (p : Params) (c : LtdcConfig) : (setupOps p c).tail.flatten =
    polarityActs p.regMap.fields c.hs c.vs c.de c.pc ++ setTimingActs p c.timing ++
    c.layers.flatMap (fun l => (layerSetup p l).flatten) ++ (reloadActs p.regMap.fields .immediate ++ [.pollReload]) ++
    (c.layers.filter fun l => l.fbAddr.isSome).flatMap (fun l => layerEnableActs p.regMap.fields l.layer.toNat) ++
    ditherActs p.regMap.fields ++ (reloadActs p.regMap.fields .immediate ++ [.pollReload]) ++ enableActs p.regMap.fields := by
  have hlayers : (c.layers.flatMap (layerSetup p)).flatten = c.layers.flatMap fun l => (layerSetup p l).flatten := by
    induction c.layers with
    | nil => rfl
    | cons l ls ih => rw [List.flatMap_cons, List.flatten_append, ih, List.flatMap_cons]
  have henables : (layerEnables p.regMap.fields c.layers).flatten =
    (c.layers.filter fun l => l.fbAddr.isSome).flatMap fun l => layerEnableActs p.regMap.fields l.layer.toNat := rfl
  rw [← hlayers, ← henables]
  simp [setupOps]

/-- The sub-operations of LT_SETUP after the first, from a state with no reload pending. -/
theorem shows_setup {q : State} {c : LtdcConfig} (hq : q.srcr = 0) (hp : q.params.layoutOk = true)
    (hr : q.params.ltdcResponds = true) (ho : ∀ l ∈ c.layers, layerOperandsOk l = true) (hf : SetupFits q.params c) :
    Shows (setupOps q.params c).tail.flatten q (q.setupEnd c) := by
  obtain ⟨ht, hf⟩ := hf
  have hlayers := shows_staged_layers c (q.setupGcr c) q.layers hq fun l hl => configures_layerSetup hp ht (ho l hl) (hf l hl)
  have hreload := shows_staged_reload c (q.setupGcr c) (q.configuredLayers c) hq hr hp
  have henables := shows_staged_layers c (q.setupGcr c) (activate (q.configuredLayers c)) hq
    (l := c.layers.filter fun l => l.fbAddr.isSome) fun l _ => configures_layerEnable q.params _ l.layer
  have hdither := shows_staged_flag c (q.setupGcr c) (q.enabledLayers c) hq q.fields.gcr.den
  have hreload' := shows_staged_reload c (gcrFlagged q.params q.fields.gcr.den (q.setupGcr c)) (q.enabledLayers c) hq hr hp
  have henable := shows_staged_flag c (gcrFlagged q.params q.fields.gcr.den (q.setupGcr c)) (activate (q.enabledLayers c)) hq
    q.fields.gcr.ltdcen
  rw [setupOps_tail_flatten]
  exact (((((((shows_polarity c hq).append (shows_staged c _ hq)).append hlayers).append hreload).append henables).append
    hdither).append hreload').append henable

end Sys2Proof.Machine
end

section
/-! PROOFS, family 45_ltdc: what LT_SETUP's end state shows of GCR and of each configured layer (R304). -/

namespace Sys2Proof.Machine

/-! ### GCR -/

theorem isSet_congr {f : BitField} {w v : Word} (h : f.get w = f.get v) : f.isSet w = f.isSet v := by
  rw [BitField.isSet, BitField.isSet, h]

section
variable {p : Params} (hp : p.layoutOk = true)
include hp

theorem isSet_gcrFlagged {f : BitField} (hw : f ∈ p.regMap.fields.gcr.written) (g : Word) :
    f.isSet (gcrFlagged p f g) = true :=
  isSet_gcrWrite hp hw List.mem_cons_self g (get_put_gcr hp hw)

/-- LT_ENABLE keeps dithering and the polarities. -/
theorem isSet_gcrFlagged_ltdcen (g : Word) :
    ∀ f ∈ [p.regMap.fields.gcr.den, p.regMap.fields.gcr.pcpol, p.regMap.fields.gcr.depol, p.regMap.fields.gcr.vspol,
      p.regMap.fields.gcr.hspol], f.isSet (gcrFlagged p p.regMap.fields.gcr.ltdcen g) = f.isSet g :=
  fun f hf => isSet_congr (get_gcrWrite_places hp (I := [1, 2, 3, 4, 5]) (J := [0]) (by decide) g _ f hf)

/-- LT_DITHER_ENABLE keeps the polarities. -/
theorem isSet_gcrFlagged_den (g : Word) :
    ∀ f ∈ [p.regMap.fields.gcr.pcpol, p.regMap.fields.gcr.depol, p.regMap.fields.gcr.vspol, p.regMap.fields.gcr.hspol],
      f.isSet (gcrFlagged p p.regMap.fields.gcr.den g) = f.isSet g :=
  fun f hf => isSet_congr (get_gcrWrite_places hp (I := [2, 3, 4, 5]) (J := [1]) (by decide) g _ f hf)

end

/-- GCR at the end of LT_SETUP (R304). -/
theorem setupEnd_gcr {q : State} (c : LtdcConfig) (hp : q.params.layoutOk = true) :
    let m := q.params.regMap.fields.gcr
    let g := (q.setupEnd c).gcr
    m.ltdcen.isSet g = true ∧ m.den.isSet g = true ∧ m.hspol.isSet g = boolOf c.hs ∧ m.vspol.isSet g = boolOf c.vs ∧
      m.depol.isSet g = boolOf c.de ∧ m.pcpol.isSet g = boolOf c.pc := by
  intro m g
  have hg : g = gcrFlagged q.params m.ltdcen (gcrFlagged q.params m.den (q.setupGcr c)) := rfl
  obtain ⟨hhs, hvs, hde, hpc⟩ := polarity_isSet hp q.gcr (boolOf c.hs) (boolOf c.vs) (boolOf c.de) (boolOf c.pc)
  have keep : ∀ f ∈ [m.pcpol, m.depol, m.vspol, m.hspol], f.isSet g = f.isSet (q.setupGcr c) := fun f hf => by
    rw [hg, isSet_gcrFlagged_ltdcen hp _ f (List.mem_cons_of_mem _ hf), isSet_gcrFlagged_den hp _ f hf]
  refine ⟨isSet_gcrFlagged hp List.mem_cons_self _, ?_, (keep m.hspol (by simp)).trans hhs, (keep m.vspol (by simp)).trans hvs,
    (keep m.depol (by simp)).trans hde, (keep m.pcpol (by simp)).trans hpc⟩
  rw [hg, isSet_gcrFlagged_ltdcen hp _ m.den List.mem_cons_self]
  exact isSet_gcrFlagged hp (List.mem_cons_of_mem _ List.mem_cons_self) _

/-! ### The layers -/

/-- The registers of a configured layer at the end of LT_SETUP, from those of its shadow copy before. -/
def setupRegs (p : Params) (t : DisplayTimingSpec) (l : LayerConfig) (r : LayerRegs) : LayerRegs :=
  if l.fbAddr.isSome then withFlag p p.regMap.fields.layer.len (configured p t l r) else configured p t l r

theorem setupRegs_eq (p : Params) (t : DisplayTimingSpec) (l : LayerConfig) (r : LayerRegs) :
    setupRegs p t l r = { configured p t l r with cr := (setupRegs p t l r).cr } := by
  unfold setupRegs
  split <;> rfl

section
variable {p : Params} (t : DisplayTimingSpec) {l : LayerConfig} (r : LayerRegs)

theorem setupRegs_cr_of_fbAddr (h : l.fbAddr.isSome = true) : (setupRegs p t l r).cr =
    setFlag (fieldsMask (p.layerFieldsOf .cr)) p.regMap.fields.layer.len (withKey? p l.colorKey r).cr := by
  rw [setupRegs, if_pos h]
  rfl

theorem setupRegs_cr_of_none (h : l.fbAddr.isSome = false) : (setupRegs p t l r).cr = (withKey? p l.colorKey r).cr := by
  rw [setupRegs, if_neg (by simp [h])]
  rfl

variable (hp : p.layoutOk = true)
include hp

/-- The layer is enabled if it has a framebuffer address; it was not before. -/
theorem setupRegs_len (hr : p.regMap.fields.layer.len.isSet r.cr = false) :
    p.regMap.fields.layer.len.isSet (setupRegs p t l r).cr = l.fbAddr.isSome := by
  cases h : l.fbAddr.isSome with
  | true =>
    rw [setupRegs_cr_of_fbAddr t r h]
    exact (layerFlags_get hp _).1
  | false =>
    rw [setupRegs_cr_of_none t r h]
    cases l.colorKey with
    | none => exact hr
    | some key =>
      obtain ⟨-, -, -, hkeep⟩ := layerFlags_get hp r.cr
      exact (isSet_congr hkeep).trans hr

/-- A layer with a colour key uses it. -/
theorem setupRegs_colken {key : ColorKey} (hk : l.colorKey = some key) :
    p.regMap.fields.layer.colken.isSet (setupRegs p t l r).cr = true := by
  obtain ⟨-, -, hset, -⟩ := layerFlags_get hp r.cr
  cases h : l.fbAddr.isSome with
  | true =>
    obtain ⟨-, hkeep, -, -⟩ := layerFlags_get hp (withKey? p l.colorKey r).cr
    rw [setupRegs_cr_of_fbAddr t r h, isSet_congr hkeep, hk]
    exact hset
  | false =>
    rw [setupRegs_cr_of_none t r h, hk]
    exact hset

end

/-- The colour key of a layer as an RGB888 value (R282, R285). -/
theorem setupRegs_ckcr {p : Params} (t : DisplayTimingSpec) {l : LayerConfig} (r : LayerRegs) {key : ColorKey}
    (hk : l.colorKey = some key) (hf : boolOk key.fmt = true) : (setupRegs p t l r).ckcr = p.regMap.fields.layer.ckcr.word
      (if key.fmt = 1 then (rgb565To888 p (key.key.setWidth 16)).setWidth 32 else key.key) := by
  have hkey : (setupRegs p t l r).ckcr = (withKey? p l.colorKey r).ckcr :=
    (congrArg LayerRegs.ckcr (setupRegs_eq p t l r)).trans rfl
  have hfmt : boolOf key.fmt = (key.fmt == 1) := boolOf_of_ok key.fmt (by simpa [boolOk] using hf)
  have h888 : colorKey888 p key.fmt key.key =
      if key.fmt = 1 then (rgb565To888 p (key.key.setWidth 16)).setWidth 32 else key.key := by
    simp only [colorKey888, hfmt, beq_iff_eq]
  rw [hkey, hk, ← h888]
  rfl

/-- The framebuffer address of a layer. -/
theorem setupRegs_cfbar (p : Params) (t : DisplayTimingSpec) {l : LayerConfig} (r : LayerRegs) {addr : Word}
    (ha : l.fbAddr = some addr) : (setupRegs p t l r).cfbar = addr := by
  have haddr : (setupRegs p t l r).cfbar = (withAddr? l.fbAddr r).cfbar :=
    (congrArg LayerRegs.cfbar (setupRegs_eq p t l r)).trans rfl
  rw [haddr, ha]
  rfl

theorem layer_activate {q : State} {k : Nat} (hk : k - 1 < q.layers.length) :
    ({ q with layers := activate q.layers } : State).layer k = { q.layer k with active := (q.layer k).shadow } := by
  simp [State.layer, activate, hk]

theorem activate_length (ls : List Layer) : (activate ls).length = ls.length := List.length_map _

theorem configuredLayers_length (q : State) (c : LtdcConfig) : (q.configuredLayers c).length = q.layers.length :=
  shadowed_length _ _

theorem enabledLayers_length (q : State) (c : LtdcConfig) : (q.enabledLayers c).length = q.layers.length :=
  (shadowed_length _ _).trans ((activate_length _).trans (configuredLayers_length q c))

section
variable {q : State} {c : LtdcConfig}
  (hr : ∀ l ∈ c.layers, 1 ≤ l.layer.toNat ∧ l.layer.toNat ≤ q.layers.length)
  (hd : c.layers.Pairwise fun a b => a.layer ≠ b.layer)
include hr hd

/-- A configured layer after the first reload. -/
theorem shadow_configuredLayers {l : LayerConfig} (hl : l ∈ c.layers) :
    ((q.staged c (q.setupGcr c) (activate (q.configuredLayers c))).layer l.layer.toNat).shadow =
      configured q.params c.timing l (q.layer l.layer.toNat).shadow := by
  have hconf : (q.staged c (q.setupGcr c) (q.configuredLayers c)).layer l.layer.toNat = { q.layer l.layer.toNat with
      shadow := configured q.params c.timing l (q.layer l.layer.toNat).shadow } :=
    layer_shadowed_of_mem (q := q.staged c (q.setupGcr c) q.layers) hr hd hl
  have hk : l.layer.toNat - 1 < (q.configuredLayers c).length := by
    rw [configuredLayers_length]
    obtain ⟨h1, hn⟩ := hr l hl
    omega
  have hact := layer_activate (q := q.staged c (q.setupGcr c) (q.configuredLayers c)) hk
  exact (congrArg Layer.shadow hact).trans (congrArg Layer.shadow hconf)

/-- A configured layer before the second reload: enabled if it is in the list of those that have an address. -/
theorem shadow_enabledLayers {l : LayerConfig} (hl : l ∈ c.layers) (g : Word) :
    ((q.staged c g (q.enabledLayers c)).layer l.layer.toNat).shadow =
      setupRegs q.params c.timing l (q.layer l.layer.toNat).shadow := by
  have hlen : (activate (q.configuredLayers c)).length = q.layers.length :=
    (activate_length _).trans (configuredLayers_length q c)
  have hshadow := shadow_configuredLayers hr hd hl
  rw [setupRegs]
  split
  · rename_i hsome
    have hin : l ∈ c.layers.filter fun l => l.fbAddr.isSome := List.mem_filter.2 ⟨hl, hsome⟩
    have hlayer := layer_shadowed_of_mem (F := fun _ => withFlag q.params q.fields.layer.len)
      (q := q.staged c (q.setupGcr c) (activate (q.configuredLayers c)))
      (fun m hm => by
        obtain ⟨hm, -⟩ := List.mem_filter.1 hm
        exact ⟨(hr m hm).1, (hr m hm).2.trans hlen.ge⟩) (hd.filter _) hin
    exact (congrArg Layer.shadow hlayer).trans (congrArg (withFlag q.params q.fields.layer.len) hshadow)
  · rename_i hnone
    have hne : ∀ m ∈ c.layers.filter fun l => l.fbAddr.isSome, m.layer ≠ l.layer := fun m hm => by
      obtain ⟨hm, hsome⟩ := List.mem_filter.1 hm
      have hsymm : Std.Symm fun a b : LayerConfig => a.layer ≠ b.layer := ⟨fun _ _ h => h.symm⟩
      refine hd.forall hm hl ?_
      rintro rfl
      exact hnone hsome
    have hlayer := layer_shadowed_of_not_mem (F := fun _ => withFlag q.params q.fields.layer.len)
      (fun m hm => (hr m (List.mem_filter.1 hm).1).1) (hr l hl).1 hne
      (q.staged c (q.setupGcr c) (activate (q.configuredLayers c)))
    exact (congrArg Layer.shadow hlayer).trans hshadow

/-- A configured layer at the end of LT_SETUP: both copies are as configured (R289, R304). -/
theorem layer_setupEnd {l : LayerConfig} (hl : l ∈ c.layers) : (q.setupEnd c).layer l.layer.toNat =
    { shadow := setupRegs q.params c.timing l (q.layer l.layer.toNat).shadow
      active := setupRegs q.params c.timing l (q.layer l.layer.toNat).shadow } := by
  have hk : l.layer.toNat - 1 < (q.enabledLayers c).length := by
    rw [enabledLayers_length]
    obtain ⟨h1, hn⟩ := hr l hl
    omega
  have hact := layer_activate (q := q.staged c (q.setupEnd c).gcr (q.enabledLayers c)) hk
  rw [← shadow_enabledLayers hr hd hl (q.setupEnd c).gcr]
  exact hact

end

/-! ### O56 -/

theorem ltdcSteps_numbered {n : Nat} {ops : List (List Act)} (h : ops.flatten.all setupAct = true) :
    LtdcSteps (numberedSteps n ops) := by
  induction ops generalizing n with
  | nil => exact fun g hg => nomatch hg
  | cons op ops ih =>
    rw [List.flatten_cons, List.all_append, Bool.and_eq_true] at h
    obtain ⟨hop, hops⟩ := h
    intro g hg
    rcases List.mem_append.1 hg with hg | hg
    · obtain ⟨a, ha, rfl⟩ := List.mem_map.1 hg
      exact ⟨List.all_eq_true.1 hop a ha, rfl⟩
    · exact ih hops g hg

theorem setupOps_tail_acts (p : Params) (c : LtdcConfig) : (setupOps p c).tail.flatten.all setupAct = true := by
  have h := setupSteps_acts p c
  rw [numberedSteps_acts] at h
  exact (Bool.and_eq_true_iff.1 h).2

/-- The rounds of the steps after the first leave the end state, up to what a display leaves out. -/
theorem setup_rounds {s : State} {c : LtdcConfig} (hp : s.params.layoutOk = true) (hr : s.params.ltdcResponds = true)
    (hs : s.srcr = 0) (ho : ∀ l ∈ c.layers, layerOperandsOk l = true) (hf : SetupFits s.params c) :
    ∃ v : State, iterState State.ltdcRound (numberedSteps 2 (setupOps s.params c).tail).length
      (s.standing (numberedSteps 2 (setupOps s.params c).tail)) =
        { s.display.setupEnd c with lastRead := v.lastRead, draws := v.draws, ltdcLog := v.ltdcLog } := by
  obtain ⟨v, e, hv⟩ := shows_setup (q := s.display) hs hp hr ho hf s rfl
  have hround := iterState_round keepsPosition_reload (m := [])
    (ltdcSteps_numbered (n := 2) (setupOps_tail_acts s.params c)) (by rw [numberedSteps_acts]; exact e)
  rw [List.append_nil] at hround
  refine ⟨v, hround.trans ?_⟩
  rw [← hv]
  rfl

/-- Settles O56: the first host step writes the background colour, the rounds after it lead to the end state (`setup_rounds`),
whose GCR and layers are read by `setupEnd_gcr` and `layer_setupEnd`. -/
theorem setupEndState : Obligations.SetupEndState := by
  intro s c hp _ hr hs hnone hlen m hbp vbp
  obtain ⟨⟨hconfig, -, hops⟩, hfits⟩ := setupRefusal_eq_none_iff.1 hnone
  obtain ⟨-, ⟨hhs, hvs, hde, hpc⟩, -, hlayers, hdis⟩ := ltdcConfigOk_iff.1 hconfig
  obtain ⟨v, hv⟩ := setup_rounds (s := { s with bccr := s.fields.bccr.word c.bg, ctx := Ctx.idle }) hp hr hs hops hfits
  refine ⟨_, (numberedSteps 2 (setupOps s.params c).tail).length, exec_ltSetup hnone, ?_⟩
  intro u
  have hu : u = _ := hv
  clear_value u
  subst hu
  obtain ⟨g1, g2, g3, g4, g5, g6⟩ := setupEnd_gcr
    (q := ({ s with bccr := s.fields.bccr.word c.bg, ctx := Ctx.idle } : State).display) c hp
  have hin : ∀ l ∈ c.layers, 1 ≤ l.layer.toNat ∧ l.layer.toNat ≤ s.layers.length :=
    fun l hl => (layerConfigOk_iff.1 (hlayers l hl)).1
  refine ⟨rfl, hs, g1, g2, g3.trans (boolOf_of_ok _ hhs), g4.trans (boolOf_of_ok _ hvs), g5.trans (boolOf_of_ok _ hde),
    g6.trans (boolOf_of_ok _ hpc), rfl, rfl, rfl, rfl, rfl, rfl, rfl, rfl, fun l hl => ?layer⟩
  case layer =>
    intro a len
    obtain ⟨-, -, -, -, hkeys⟩ := layerConfigOk_iff.1 (hlayers l hl)
    have hlayer := layer_setupEnd
      (q := ({ s with bccr := s.fields.bccr.word c.bg, ctx := Ctx.idle } : State).display) hin hdis hl
    have ha : a = setupRegs s.params c.timing l (s.layer l.layer.toNat).shadow := congrArg Layer.active hlayer
    have heq := ha.trans (setupRegs_eq s.params c.timing l (s.layer l.layer.toNat).shadow)
    refine ⟨(congrArg Layer.shadow hlayer).trans ha.symm, ?_, congrArg LayerRegs.pfcr heq, congrArg LayerRegs.dccr heq,
      congrArg LayerRegs.cacr heq, congrArg LayerRegs.bfcr heq, congrArg LayerRegs.whpcr heq, congrArg LayerRegs.wvpcr heq,
      fun addr hf => ?_, congrArg LayerRegs.cfblr heq, congrArg LayerRegs.cfblnr heq, fun key hk => ⟨?_, ?_⟩⟩
    all_goals rw [ha]
    · exact setupRegs_len c.timing _ hp (hlen l hl)
    · exact setupRegs_cfbar _ _ _ hf
    · exact setupRegs_colken c.timing _ hp hk
    · exact setupRegs_ckcr _ _ hk (hkeys key hk).1

end Sys2Proof.Machine
end

section
/-! PROOFS, family 46_system: the critical section, the clock and reset provider (R330 to R334). -/

namespace Sys2Proof.Machine

/-! ### Leaving a critical section (R331) -/

section
variable {s : State}

theorem doAct_leave_of_cons {m : Bool} {ms : List Bool} (h : s.csStack = m :: ms) :
    doAct .leave s = .done { s with imask := m, csStack := ms } := by
  simp only [doAct, State.csExit?, h]

theorem doAct_leave_of_nil (h : s.csStack = []) : doAct .leave s = .stop (.refuse .unbalancedCriticalSection) := by
  simp only [doAct, State.csExit?, h]

end

/-- Settles O57: each operation is one act; CS_EXIT's depends on the stack (`doAct_leave_of_nil`, `doAct_leave_of_cons`). -/
theorem criticalSectionResults : Obligations.CriticalSectionResults := by
  intro s
  refine ⟨rfl, rfl, ?enter, fun h => ?unbalanced, fun m ms h => ?leave⟩
  case enter => exact congrArg Host.Outcome.next (beginActs_one_of_done (a := .enter) rfl)
  case unbalanced => exact congrArg _ (beginActs_one_of_stop (doAct_leave_of_nil (s := { s with ctx := Ctx.idle }) h))
  case leave => exact congrArg _ (beginActs_one_of_done (doAct_leave_of_cons (s := { s with ctx := Ctx.idle }) h))

/-! ### The first acts of an operation -/

/-- An operation whose first acts are made, up to the position at which the others are still to be made. -/
theorem beginActs_continueFor_standing {s t : State} {a : Act} {acts : List Act} (more : List Act)
    (hs : (a :: acts).all setupAct = true) (h : made id (a :: acts) { s with ctx := Ctx.idle } = some t) :
    (s.beginActs (a :: (acts ++ more))).continueFor acts.length = t.standing (plainSteps more) := by
  obtain ⟨v, e, h⟩ := made_cons_eq_some h
  obtain ⟨ha, hs⟩ := Bool.and_eq_true_iff.1 hs
  have hround := iterState_round keepsPosition_id (m := plainSteps more) (ltdcSteps_plain hs)
    (by rw [plainSteps_acts]; exact h)
  rw [beginActs_standing ha e, continueFor_eq_iterState]
  rw [plainSteps, List.length_map, ← plainSteps] at hround
  rwa [plainSteps, List.map_append]

/-! ### The RegModifys of the provider (R332, R333) -/

/-- The read of a RegModify: it is recorded, and its word stands in the latch. -/
def State.latched (s : State) (r : Reg) : State := (s.regRead r).setLatch (s.regKnown r)

section
variable {s : State} (hp : s.params.layoutOk = true)
include hp

theorem made_setFmcen : made id (setFieldActs .ahb3enr s.fields.fmcen 1) s =
    some { s.latched .ahb3enr with fmcen := true } :=
  made_modify (regWrite_setFmcen (q := s.latched .ahb3enr) hp _)

theorem made_setFmcrst : made id (setFieldActs .ahb3rstr s.fields.fmcrst 1) s = some (s.latched .ahb3rstr).fmcReset :=
  made_modify (regWrite_setFmcrst (q := s.latched .ahb3rstr) hp _)

theorem made_clearFmcrst : made id (setFieldActs .ahb3rstr s.fields.fmcrst 0) s =
    some { s.latched .ahb3rstr with fmcrst := false } :=
  made_modify (regWrite_clearFmcrst (q := s.latched .ahb3rstr) hp _)

/-- The acts of RCC_FMC_RESET_PULSE: the reset at the assert, and the line released. -/
theorem made_resetPulse : made id (setFieldActs .ahb3rstr s.fields.fmcrst 1 ++ setFieldActs .ahb3rstr s.fields.fmcrst 0) s =
    some { (s.latched .ahb3rstr).fmcReset.latched .ahb3rstr with fmcrst := false } :=
  (made_append (made_setFmcrst hp)).trans (made_clearFmcrst (s := (s.latched .ahb3rstr).fmcReset) hp)

/-- The reset pulse after its write that asserts the line: the FMC is reset and the release is still to be made. -/
theorem resetPulse_asserted :
    (s.beginActs (setFieldActs .ahb3rstr s.fields.fmcrst 1 ++ setFieldActs .ahb3rstr s.fields.fmcrst 0)).continueFor 1 =
      (({ s with ctx := Ctx.idle }.latched .ahb3rstr).fmcReset).standing
        (plainSteps (setFieldActs .ahb3rstr s.fields.fmcrst 0)) :=
  beginActs_continueFor_standing (setFieldActs .ahb3rstr s.fields.fmcrst 0) rfl
    (made_setFmcrst (s := { s with ctx := Ctx.idle }) hp)

end

/-- Settles O58: one RegModify sets FMCEN (`made_setFmcen`); the reset pulse is two, the first of which is the FMC reset
(`resetPulse_asserted`, `fmcReset_atReset`), and the whole leaves `made_resetPulse`. -/
theorem clockProviderResults : Obligations.ClockProviderResults := by
  intro s
  refine ⟨rfl, rfl, rfl, rfl, fun hp => ⟨⟨_, rfl, ?goesOn, ?enabled⟩, ⟨_, rfl, ?line, ?held, ?released⟩⟩⟩
  case goesOn =>
    have hfirst : s.beginActs (setFieldActs .ahb3enr s.fields.fmcen 1) = _ := beginActs_standing rfl rfl
    rw [hfirst]
    exact List.cons_ne_nil _ _
  case enabled => exact beginActs_continueFor rfl (made_setFmcen (s := { s with ctx := Ctx.idle }) hp) rfl
  case line => exact congrArg State.fmcrst (resetPulse_asserted hp)
  case held => exact (congrArg State.fmcAtReset (resetPulse_asserted hp)).trans (fmcReset_atReset _)
  case released => exact beginActs_continueFor rfl (made_resetPulse (s := { s with ctx := Ctx.idle }) hp) rfl

end Sys2Proof.Machine
end

section
/-! PROOFS, family 60_exceptions: the two marks (R34, R343) and the end of a run (R389). A host step of an operation keeps both
marks or is one mark (`opStep_marks`), and no primitive change clears or replaces a mark (`KeepsMarks.keptByAll`). -/

namespace Sys2Proof.Machine

/-! ### States with the same marks -/

/-- The recorded fault and the recorded refusal are the same. -/
structure SameMarks (s t : State) : Prop where
  faulted : t.faulted = s.faulted
  refused : t.refused = s.refused

theorem SameMarks.refl (s : State) : SameMarks s s := ⟨rfl, rfl⟩

theorem SameMarks.trans {s t u : State} (h : SameMarks s t) (g : SameMarks t u) : SameMarks s u :=
  ⟨g.faulted.trans h.faulted, g.refused.trans h.refused⟩

theorem SameMarks.stopped {s t : State} (h : SameMarks s t) : t.stopped = s.stopped := by
  simp only [State.stopped, h.faulted, h.refused]

/-- A register write that is made records nothing; the one that faults (R245) leaves its mark to its caller. -/
theorem regWrite_sameMarks {s t : State} {r : Reg} {w : Word} (e : s.regWrite r w = .ok t) : SameMarks s t := by
  cases r with
  | sdcmr =>
    simp only [State.regWrite, State.writeSdcmr] at e
    split at e
    · cases e; exact .refl s
    · split at e <;> cases e
      exact ⟨rfl, rfl⟩
  | ahb3rstr | sdcr1 | sdcr2 | sdtr1 | sdtr2 | sdrtr => cases e; split <;> exact ⟨rfl, rfl⟩
  | _ => cases e; exact ⟨rfl, rfl⟩

theorem tickStep_sameMarks (s : State) : SameMarks s s.tickStep := by
  unfold State.tickStep
  split <;> exact ⟨rfl, rfl⟩

theorem fmcStep_sameMarks (s : State) : SameMarks s s.fmcStep := by
  unfold State.fmcStep
  split
  · split <;> exact ⟨rfl, rfl⟩
  · exact ⟨rfl, rfl⟩

theorem ltdcReloadStep_sameMarks (s : State) : SameMarks s s.ltdcReloadStep := by
  unfold State.ltdcReloadStep
  split <;> exact ⟨rfl, rfl⟩

theorem ltdcVBlankStep_sameMarks (s : State) : SameMarks s s.ltdcVBlankStep := by
  unfold State.ltdcVBlankStep
  split
  · split <;> exact ⟨rfl, rfl⟩
  · exact ⟨rfl, rfl⟩

/-! ### A stop is one mark (R343) -/

theorem mark_eq (s : State) (r : Stop) : (∃ q, s.mark r = s.refuse q) ∨ ∃ f, s.mark r = s.raiseFault f := by
  cases r with
  | fault f => exact .inr ⟨f, rfl⟩
  | refuse q => exact .inl ⟨q, rfl⟩

/-- An act that does not stop records nothing. -/
theorem doAct_sameMarks {s t : State} {a : Act} (e : (doAct a s).state? = some t) : SameMarks s t := by
  have m := doAct_move a s
  generalize doAct a s = r at e m
  cases m with
  | stop r => cases e
  | write _ _ hw => cases e; exact regWrite_sameMarks hw
  | _ => cases e; exact ⟨rfl, rfl⟩

theorem enterPhase_sameMarks (s : State) (p : Option SeqPhase) : SameMarks s (s.enterPhase p) := by
  cases p <;> exact ⟨rfl, rfl⟩

theorem settle_sameMarks (s : State) : SameMarks s s.settle := by
  unfold State.settle
  split <;> exact ⟨rfl, rfl⟩

/-- A host step leaves the state before it with one mark, or keeps the marks of the state it is made in. -/
theorem performStep_marks (o s : State) (h : HostStep) :
    (∃ r, performStep o s h = o.mark r) ∨ SameMarks s (performStep o s h) := by
  unfold performStep
  split
  · next t e =>
    have ht : SameMarks s t := doAct_sameMarks (by rw [e]; rfl)
    exact .inr (ht.trans ((enterPhase_sameMarks t h.phase).trans (settle_sameMarks _)))
  · next t e =>
    have ht : SameMarks s t := doAct_sameMarks (by rw [e]; rfl)
    have hheld : SameMarks t { t with ctx := { t.ctx with todo := h :: t.ctx.todo } } := ⟨rfl, rfl⟩
    exact .inr (ht.trans (hheld.trans (settle_sameMarks _)))
  · next r _ => exact .inl ⟨r, rfl⟩

theorem continueOp_marks (s : State) : (∃ r, s.continueOp = s.mark r) ∨ SameMarks s s.continueOp := by
  unfold State.continueOp
  split
  · exact .inr (.refl s)
  · exact (performStep_marks s _ _).imp_right fun h => ⟨h.faulted, h.refused⟩

theorem beginSteps_marks (s : State) (l : List HostStep) :
    (∃ r, s.beginSteps l = s.mark r) ∨ SameMarks s (s.beginSteps l) := by
  cases l with
  | nil => exact .inr (.refl s)
  | cons h rest => exact (performStep_marks s _ h).imp_right fun h => ⟨h.faulted, h.refused⟩

theorem exec_marks {i : Instr} {s t : State} (e : exec i s = .next t) : (∃ r, t = s.mark r) ∨ SameMarks s t := by
  cases shape_of_exec e with
  | refuse r => exact .inl ⟨.refuse r, rfl⟩
  | raise f => exact .inl ⟨.fault f, rfl⟩
  | steps l _ => exact beginSteps_marks s l
  | _ => exact .inr ⟨rfl, rfl⟩

/-- A host step of an operation is one mark and nothing else, or keeps both marks. -/
theorem opStep_marks {s t : State} (e : OpStep s t) : (∃ r, t = s.mark r) ∨ SameMarks s t := by
  rcases e with ⟨i, e⟩ | rfl
  · exact exec_marks e
  · exact continueOp_marks s

/-! ### Marks are final (R34) -/

/-- Every mark of `s` is recorded in `t`. -/
structure KeepsMarks (s t : State) : Prop where
  faulted : ∀ f, s.faulted = some f → t.faulted = some f
  refused : ∀ r, s.refused = some r → t.refused = some r

theorem KeepsMarks.refl (s : State) : KeepsMarks s s := ⟨fun _ h => h, fun _ h => h⟩

theorem KeepsMarks.trans {s t u : State} (h : KeepsMarks s t) (g : KeepsMarks t u) : KeepsMarks s u :=
  ⟨fun f hf => g.faulted f (h.faulted f hf), fun r hr => g.refused r (h.refused r hr)⟩

theorem KeepsMarks.same {s t u : State} (h : KeepsMarks s t) (g : SameMarks t u) : KeepsMarks s u :=
  ⟨fun f hf => g.faulted.trans (h.faulted f hf), fun r hr => g.refused.trans (h.refused r hr)⟩

/-- A fault is recorded only where none is (R340). -/
theorem raiseFault_keepsMarks (s : State) (f : Fault) : KeepsMarks s (s.raiseFault f) :=
  ⟨fun g hg => by simp [hg], fun _ hr => hr⟩

/-- A refusal is recorded only where none is (R341). -/
theorem refuse_keepsMarks (s : State) (r : Refusal) : KeepsMarks s (s.refuse r) :=
  ⟨fun _ hf => hf, fun q hq => by simp [hq]⟩

/-- Of the primitive changes only the two marks touch `faulted` and `refused`, and each keeps what is recorded. -/
theorem KeepsMarks.keptByAll (s : State) : KeptByAll (KeepsMarks s) where
  ctx _ _ h := { h with }
  read _ _ h := { h with }
  write _ _ _ _ h e := h.same (regWrite_sameMarks e)
  mask _ _ _ h := { h with }
  seq _ _ _ h := { h with }
  res _ _ h := { h with }
  raise u f h := h.trans (raiseFault_keepsMarks u f)
  refuse u r h := h.trans (refuse_keepsMarks u r)
  newWatch _ _ _ _ _ _ _ h := { h with }
  watch _ _ _ _ _ _ _ h := { h with }
  turn _ _ _ h := { h with }
  program _ _ h := { h with }
  irq _ _ h := { h with }
  record _ _ h := { h with }
  names _ _ _ h := { h with }
  store _ _ _ h := { h with }
  tick u h := h.same (tickStep_sameMarks u)
  fmc u h := h.same (fmcStep_sameMarks u)
  reload u h := h.same (ltdcReloadStep_sameMarks u)
  vblank u h := h.same (ltdcVBlankStep_sameMarks u)

theorem step_keepsMarks {s t : State} (e : step s = .next t) : KeepsMarks s t :=
  (KeepsMarks.keptByAll s).step (.refl s) e

/-! ### After a mark (R343) -/

theorem stopped_iff (s : State) : s.stopped = true ↔ (∃ f, s.faulted = some f) ∨ ∃ r, s.refused = some r := by
  simp only [State.stopped, Bool.or_eq_true, Option.isSome_iff_exists]

theorem KeepsMarks.stopped {s t : State} (h : KeepsMarks s t) (hs : s.stopped = true) : t.stopped = true := by
  rw [stopped_iff] at hs ⊢
  exact hs.imp (fun ⟨f, hf⟩ => ⟨f, h.faulted f hf⟩) fun ⟨r, hr⟩ => ⟨r, h.refused r hr⟩

theorem hostStep_of_stopped {ex : Instr → State → Answer} {s : State} (h : s.stopped = true) :
    hostStepWith ex s = .next s := by
  simp [hostStepWith, State.hostEnabled, h]

theorem irqStep_of_stopped {ex : Instr → State → Answer} {s : State} (h : s.stopped = true) :
    irqStepWith ex s = .next s := by
  simp [irqStepWith, h]

/-! ### The end of a run (R389) -/

/-- What every step keeps, every run keeps. -/
theorem KeptByAll.runFor {P : State → Prop} (k : KeptByAll P) {n : Nat} {s t : State} (h : P s)
    (e : runFor n s = .next t) : P t := by
  induction n generalizing s with
  | zero => cases e; exact h
  | succ n ih =>
    obtain ⟨u, hu, e⟩ := runFor_succ_next e
    exact ih (k.step h hu) e

theorem not_stopped_of_final {s : State} (h : s.final) : s.stopped = false := by
  obtain ⟨-, -, -, hf, hr⟩ := h
  simp [State.stopped, hf, hr]

/-- A run from a marked state keeps the mark, and a final state has none. -/
theorem not_endsIn_of_stopped {s t : State} {k : Nat} (hs : s.stopped = true) : ¬ EndsIn s k t := by
  rintro ⟨hrun, hfinal, -⟩
  have ht : t.stopped = true := ((KeepsMarks.keptByAll s).runFor (.refl s) hrun).stopped hs
  exact absurd ht (by simp [not_stopped_of_final hfinal])

/-- No run ends before another from the same state: the earlier end is final, and the later one is the first that is. -/
theorem EndsIn.le {s t t' : State} {k k' : Nat} (h : EndsIn s k t) (h' : EndsIn s k' t') : k' ≤ k := by
  obtain ⟨hrun, hfinal, -⟩ := h
  obtain ⟨-, -, hfirst⟩ := h'
  exact Nat.le_of_not_lt fun hlt => hfirst k hlt t hrun hfinal

theorem EndsIn.unique {s t t' : State} {k k' : Nat} (h : EndsIn s k t) (h' : EndsIn s k' t') : k = k' ∧ t = t' := by
  obtain rfl : k = k' := Nat.le_antisymm (h'.le h) (h.le h')
  obtain ⟨hrun, -⟩ := h
  obtain ⟨hrun', -⟩ := h'
  exact ⟨rfl, Host.Outcome.next.inj (hrun.symm.trans hrun')⟩

/-! ### The obligation -/

/-- Settles O9: a host step that sets the first mark does not keep the marks, so it is one (`opStep_marks`); a step keeps every
mark (`step_keepsMarks`), and so does a run, which from a marked state therefore has no final state (`not_endsIn_of_stopped`);
of two ends of a run neither is before the other (`EndsIn.unique`). -/
theorem stopsAndMarks : Obligations.StopsAndMarks := by
  refine ⟨fun s t hs ht e => ?stop, fun s t e => ?final, fun s hs => ⟨hostStep_of_stopped hs, irqStep_of_stopped hs⟩,
    fun s t k hs => not_endsIn_of_stopped hs, fun s t t' k k' h h' => h.unique h'⟩
  case stop =>
    obtain ⟨r, rfl⟩ | hsame := opStep_marks e
    · exact mark_eq s r
    · have : t.stopped = false := hsame.stopped.trans hs
      exact absurd ht (by simp [this])
  case final =>
    have h := step_keepsMarks e
    exact ⟨h.faulted, h.refused⟩

end Sys2Proof.Machine
end
